-- ==== Sys2Proof/Word.lean ====
section
/-! DEFINITION. The word types: the data path is 8 bits wide everywhere (00_scope.md R7) and an event word has
10 bits (30_encoding.md R60). -/

namespace Sys2Proof

/-- One byte of the stream, of the frame buffer or of a frame (00_scope.md R8). -/
abbrev Byte := BitVec 8

/-- The input event word `ev[9:0]` (30_encoding.md R60). -/
abbrev EventWord := BitVec 10

end Sys2Proof
end

