-- ==== Sys2Proof/Config.lean ====
section
/-! DEFINITION. What is fixed for the machine: the named constants of 00_scope.md R6 and R7 (hardwired, 10_state.md
R32), each number once, the build parameters of the same rule, and the free values (93_implementation_defined.md I1, I10). The literals are
unaudited (R6): log 11. -/

namespace Sys2Proof

namespace Config

/-! The header and the lengths (00_scope.md R7). -/

/-- First header byte (R7). -/
def HDR0 : Byte := 0xBB#8
/-- Second header byte (R7). -/
def HDR1 : Byte := 0x51#8
/-- Header length in bytes: the index of the first payload byte (41_feed.md R113). -/
@[simp] abbrev HDR_LEN : Nat := 2
/-- Index of the first header byte in either format (30_encoding.md R63, R66). -/
@[simp] abbrev HDR0_POS : Nat := 0
/-- Index of the second header byte in either format (R63, R66). -/
@[simp] abbrev HDR1_POS : Nat := 1
/-- Inbound frame length in bytes (R7). -/
@[simp] abbrev FRAME_LEN : Nat := 15
/-- Command frame length in bytes (R7). -/
@[simp] abbrev CMD_LEN : Nat := 10

/-! The checksum ranges (00_scope.md R7). -/

/-- First index of the inbound checksum range (R7). -/
@[simp] abbrev CKS_LO : Nat := 2
/-- Last index of the inbound checksum range, inclusive (R7). -/
@[simp] abbrev CKS_HI : Nat := 13
/-- Index of the inbound checksum byte (R7). -/
@[simp] abbrev CKS_POS : Nat := 14
/-- First index of the command checksum range (R7). -/
@[simp] abbrev CMD_CKS_LO : Nat := 2
/-- Last index of the command checksum range, inclusive (R7). -/
@[simp] abbrev CMD_CKS_HI : Nat := 8
/-- Index of the command checksum byte (R7). -/
@[simp] abbrev CMD_CKS_POS : Nat := 9
/-- Payload length in bytes: what lies between the header and the checksum byte. -/
@[simp] abbrev PAYLOAD_LEN : Nat := CKS_POS - HDR_LEN

/-! The target humidity (00_scope.md R7). -/

/-- Lowest target humidity, percent (R7). -/
@[simp] abbrev TGT_MIN : Nat := 30
/-- Highest target humidity, percent (R7). -/
@[simp] abbrev TGT_MAX : Nat := 90
/-- Step of the target humidity, percent (R7). -/
@[simp] abbrev TGT_STEP : Nat := 5
/-- Raw code of `TGT_MIN` (R7). -/
@[simp] abbrev TGT_OFS : Nat := 2
/-- Decoded target below `TGT_OFS`, and the adapter's default (R7, 44_command_encode.md R177). -/
@[simp] abbrev TGT_DEFAULT : Nat := 50
/-- Raw code of `TGT_MAX`, the highest code the encoder writes (30_encoding.md R71). -/
@[simp] abbrev TGT_CODE_MAX : Nat := TGT_OFS + (TGT_MAX - TGT_MIN) / TGT_STEP

/-! The inbound field map: offsets and masks (30_encoding.md R63). -/

/-- `powerOn`: byte. -/
@[simp] abbrev POWER_POS : Nat := 2
/-- `powerOn`: bit. -/
@[simp] def POWER_MASK : Byte := 0x80#8
/-- `fanHigh`: byte. -/
@[simp] abbrev FAN_POS : Nat := 3
/-- `fanHigh`: bit. -/
@[simp] def FAN_MASK : Byte := 0x20#8
/-- Mode code: byte. -/
@[simp] abbrev MODE_POS : Nat := 3
/-- Mode code: the two low bits. -/
@[simp] def MODE_MASK : Byte := 0x03#8
/-- `humidity`: byte, whole. -/
@[simp] abbrev HUMIDITY_POS : Nat := 4
/-- Target-humidity code: byte, whole. -/
@[simp] abbrev TARGET_POS : Nat := 5
/-- `compressorOn`: byte. -/
@[simp] abbrev COMPRESSOR_POS : Nat := 7
/-- `compressorOn`: bit. -/
@[simp] def COMPRESSOR_MASK : Byte := 0x80#8
/-- `tankFull`: byte (90_conflicts.md C1). -/
@[simp] abbrev TANK_POS : Nat := 9
/-- `tankFull`: bit. -/
@[simp] def TANK_MASK : Byte := 0x04#8
/-- `temperature`: byte, whole. -/
@[simp] abbrev TEMPERATURE_POS : Nat := 10

/-! The command field map (30_encoding.md R66) and the mode codes (R70). -/

/-- Power: byte. -/
@[simp] abbrev CMD_POWER_POS : Nat := 2
/-- Power: the byte when on. -/
@[simp] def CMD_POWER_ON : Byte := 0x80#8
/-- Mode and fan: byte. -/
@[simp] abbrev CMD_MODE_POS : Nat := 3
/-- Fan high: bit. -/
@[simp] def CMD_FAN_HIGH : Byte := 0x20#8
/-- The bit that every command frame sets in the mode byte. -/
@[simp] def CMD_FIXED_BIT : Byte := 0x10#8
/-- Target code: byte. -/
@[simp] abbrev CMD_TARGET_POS : Nat := 5
/-- Target code in Auto mode. -/
@[simp] def CMD_TGT_AUTO : Byte := 0x00#8
/-- Target code in Cold mode. -/
@[simp] def CMD_TGT_COLD : Byte := 0x01#8
/-- Every byte of a command frame that carries no field: 4, 6, 7 and 8 (44_command_encode.md R175). -/
@[simp] def CMD_RESERVED : Byte := 0x00#8
/-- Mode code of Auto, the same in both frames and on both ports (R70). -/
@[simp] def MODE_AUTO : BitVec 2 := 0b00#2
/-- Mode code of Cold (R70). -/
@[simp] def MODE_COLD : BitVec 2 := 0b01#2
/-- Mode code of Humidity (R70). -/
@[simp] def MODE_HUMIDITY : BitVec 2 := 0b10#2

/-- FREE VALUE (log 3): what index `i` of the frame buffer holds while nothing has written it, in the `gen`-th
contents (93_implementation_defined.md I1: any value). No body: nothing can be proved of it. -/
opaque freeBufByte : (gen : Nat) → (i : Nat) → Byte

/-- How far above `TGT_MIN` a freely drawn target lies: the type keeps the bound the spec sets, any value in 30..90
(43_snapshot_decode.md R154). -/
abbrev TargetDraw := Fin (TGT_MAX - TGT_MIN + 1)

/-- FREE VALUE (log 6): the `n`-th target drawn for a raw code 15..255 under `TGT_HIGH_POLICY = draw`. DESIGN CHOICE,
unsafe: it is one sequence for every state and every instance, which the spec does not tie together (R154, R211), so
that two machines' `n`-th draws are equal in the model. -/
opaque freeTargetDraw : (n : Nat) → TargetDraw

end Config

/-- An inbound frame, indexed from 0 (00_scope.md R9, 30_encoding.md R63). -/
abbrev Frame := Vector Byte Config.FRAME_LEN

/-- An outbound command frame, `cmd[0]` transmitted first (30_encoding.md R66, 20_memory.md R42). -/
abbrev CmdFrame := Vector Byte Config.CMD_LEN

/-- `N_INSTANCES` (00_scope.md R7): a natural number of at least 1. -/
abbrev InstanceCount := { n : Nat // 1 ≤ n }

/-- `TGT_HIGH_POLICY` (00_scope.md R7, 43_snapshot_decode.md R154). -/
inductive TgtHighPolicy where
  | clamp
  | draw
deriving DecidableEq, Repr

/-- The parameters of 00_scope.md R7 that an FSD is built with. They cannot be changed at run time. -/
structure Params where
  /-- `HAS_ENCODER`: the command encoder is present (R3). -/
  hasEncoder : Bool := true
  /-- `TGT_HIGH_POLICY`: decoded target for raw codes 15..255. -/
  tgtHighPolicy : TgtHighPolicy := .clamp
  /-- `TEMP_SIGNED`: a consumer reads `temperature` as two's complement (43_snapshot_decode.md R158). -/
  tempSigned : Bool := false
deriving DecidableEq, Repr

/-- R7's default parameters. -/
def Config.defaultParams : Params :=
  { hasEncoder := true, tgtHighPolicy := .clamp, tempSigned := false }

end Sys2Proof
end

