-- ==== Sys2Proof/Syntax.lean ====
section
/-! DEFINITION. The syntax, whole: one constructor of `Instr` per row of spec/opcode_table.json. The eight FEED rows
are the sub-operations of one FEED word (30_encoding.md R62); a row whose byte is fixed carries no operand. -/

namespace Sys2Proof

/-- The parser-state register's three values (10_state.md R21); code 11 is not a state and is unrepresentable. -/
inductive ParserState where
  /-- `AwaitingFirstHeaderByte`, code 00. -/
  | await1
  /-- `AwaitingSecondHeaderByte`, code 01. -/
  | await2
  /-- `Collecting`, code 10. -/
  | collect
deriving DecidableEq, Repr

/-- The device modes (30_encoding.md R70). -/
inductive Mode where
  | auto
  | cold
  | humidity
deriving DecidableEq, Repr

/-- The instructions: the rows of the opcode table. The operand of ENCODE is not in its word, it is sampled from the
desired-state port (30_encoding.md R60). -/
inductive Instr where
  /-- IDLE: no byte this step (40_control_events.md R100). -/
  | idle
  /-- FEED.A1_HDR0: first header byte seen (41_feed.md R111). -/
  | feedA1Hdr0
  /-- FEED.A1_NOISE: noise while awaiting the first header byte (R112). -/
  | feedA1Noise (b : Byte)
  /-- FEED.A2_HDR1: header complete (R113). -/
  | feedA2Hdr1
  /-- FEED.A2_REARM: repeated first header byte (R114). -/
  | feedA2Rearm
  /-- FEED.A2_NOISE: header broken off (R115). -/
  | feedA2Noise (b : Byte)
  /-- FEED.COL_DATA: collect one payload byte (R116). -/
  | feedColData (b : Byte)
  /-- FEED.COL_LAST_OK: last byte, checksum matches (R117). -/
  | feedColLastOk (b : Byte)
  /-- FEED.COL_LAST_BAD: last byte, checksum mismatch (R118). -/
  | feedColLastBad (b : Byte)
  /-- RESET: back to the reset state (40_control_events.md R102). -/
  | reset
  /-- ENCODE: build one command frame from the desired-state port (R101, 44_command_encode.md R170). -/
  | encode
deriving DecidableEq, Repr

end Sys2Proof
end

