-- ==== Sys2Proof/WellFormed.lean ====
section
/-! DEFINITION. Well-formed instructions: the byte operand is one the row's table entry admits (the `data_value`
column of spec/opcode_table.json, 30_encoding.md R62). -/

namespace Sys2Proof

/-- The operand check of each row. A noise byte is none of the header bytes its state acts on. -/
def Instr.wf : Instr → Bool
  | .idle => true
  | .feedA1Hdr0 => true
  | .feedA1Noise b => b != Config.HDR0
  | .feedA2Hdr1 => true
  | .feedA2Rearm => true
  | .feedA2Noise b => b != Config.HDR0 && b != Config.HDR1
  | .feedColData _ => true
  | .feedColLastOk _ => true
  | .feedColLastBad _ => true
  | .reset => true
  | .encode => true

end Sys2Proof
end

