-- ==== Sys2Proof/Decode.lean ====
section
/-! DEFINITION. The event-word decoder, total on every word and every parser context, rejecting by name, and after it
the encoder and the opcode table's match and mask pairs (30_encoding.md R60 to R64). A FEED word is decoded further
by `state`, `cursor` and the byte (R62), so the decoder takes those registers as its context. -/

namespace Sys2Proof

/-- What the second level of FEED decoding reads besides the byte: the parser state, the cursor and the checksum of
buffer bytes 2..13 (R62, 41_feed.md R110). The range leaves out index 14, so the sum is the same before and after the
last byte is written (log 16). -/
structure DecodeCtx where
  state : ParserState
  cursor : BitVec 4
  computed : Byte
deriving DecidableEq, Repr

/-- Why a word is rejected. -/
inductive DecodeReject where
  /-- The registers hold a pair outside 10_state.md R25's set. -/
  | unreachableState
  /-- IDLE, RESET or ENCODE with nonzero data bits (30_encoding.md R61). -/
  | reservedEventBits
deriving DecidableEq, Repr

/-- `ev[9:8]`. -/
def evKind (w : EventWord) : BitVec 2 := w.extractLsb' 8 2

/-- `ev[7:0]`. -/
def evData (w : EventWord) : Byte := w.extractLsb' 0 8

/-- The representable control states of 10_state.md R25: `(AWAIT1, 0)`, `(AWAIT2, 0)`, `(COLLECT, c)` for
`2 <= c <= 14`. -/
def representable (st : ParserState) (cursor : BitVec 4) : Bool :=
  match st with
  | .await1 => cursor == 0#4
  | .await2 => cursor == 0#4
  | .collect => Config.HDR_LEN ≤ cursor.toNat && cursor.toNat ≤ Config.CKS_POS

/-- FEED dispatch (41_feed.md R110, line by line). -/
def selectFeed (c : DecodeCtx) (b : Byte) : Except DecodeReject Instr :=
  match c.state with
  | .await1 =>
    if c.cursor = 0#4 then
      if b = Config.HDR0 then .ok .feedA1Hdr0 else .ok (.feedA1Noise b)
    else .error .unreachableState
  | .await2 =>
    if c.cursor = 0#4 then
      if b = Config.HDR1 then .ok .feedA2Hdr1
      else if b = Config.HDR0 then .ok .feedA2Rearm
      else .ok (.feedA2Noise b)
    else .error .unreachableState
  | .collect =>
    if Config.HDR_LEN ≤ c.cursor.toNat ∧ c.cursor.toNat < Config.CKS_POS then .ok (.feedColData b)
    else if c.cursor.toNat = Config.CKS_POS then
      if c.computed = b then .ok (.feedColLastOk b) else .ok (.feedColLastBad b)
    else .error .unreachableState

/-- The decoder. The checks stand in the order of 60_exceptions.md R202: the unreachable state first, then the
reserved bits. -/
def decode (c : DecodeCtx) (w : EventWord) : Except DecodeReject Instr :=
  if representable c.state c.cursor = false then .error .unreachableState
  else if evKind w = 0b01#2 then selectFeed c (evData w)
  else if evData w ≠ 0#8 then .error .reservedEventBits
  else if evKind w = 0b00#2 then .ok .idle
  else if evKind w = 0b10#2 then .ok .reset
  else .ok .encode

/-- The row's condition: the `state`, `cursor` and `data_value` columns of spec/opcode_table.json, which are those of
30_encoding.md R62's map. IDLE, RESET and ENCODE have none. -/
def rowApplies (c : DecodeCtx) : Instr → Bool
  | .idle => true
  | .feedA1Hdr0 => c.state == .await1 && c.cursor == 0#4
  | .feedA1Noise b => c.state == .await1 && c.cursor == 0#4 && b != Config.HDR0
  | .feedA2Hdr1 => c.state == .await2 && c.cursor == 0#4
  | .feedA2Rearm => c.state == .await2 && c.cursor == 0#4
  | .feedA2Noise b => c.state == .await2 && c.cursor == 0#4 && b != Config.HDR1 && b != Config.HDR0
  | .feedColData _ => c.state == .collect && Config.HDR_LEN ≤ c.cursor.toNat && c.cursor.toNat < Config.CKS_POS
  | .feedColLastOk b => c.state == .collect && c.cursor.toNat == Config.CKS_POS && c.computed == b
  | .feedColLastBad b => c.state == .collect && c.cursor.toNat == Config.CKS_POS && c.computed != b
  | .reset => true
  | .encode => true

/-- An event word from its two fields (R60). -/
def eventWord (kind : BitVec 2) (data : Byte) : EventWord := kind ++ data

/-- The encoder: the event word of each row (R60, R64). -/
def encode : Instr → EventWord
  | .idle => eventWord 0b00#2 0#8
  | .feedA1Hdr0 => eventWord 0b01#2 Config.HDR0
  | .feedA1Noise b => eventWord 0b01#2 b
  | .feedA2Hdr1 => eventWord 0b01#2 Config.HDR1
  | .feedA2Rearm => eventWord 0b01#2 Config.HDR0
  | .feedA2Noise b => eventWord 0b01#2 b
  | .feedColData b => eventWord 0b01#2 b
  | .feedColLastOk b => eventWord 0b01#2 b
  | .feedColLastBad b => eventWord 0b01#2 b
  | .reset => eventWord 0b10#2 0#8
  | .encode => eventWord 0b11#2 0#8

/-- The row's `mask` in spec/opcode_table.json. -/
def rowMask : Instr → EventWord
  | .idle => 0x3FF#10
  | .feedA1Hdr0 => 0x3FF#10
  | .feedA1Noise _ => 0x300#10
  | .feedA2Hdr1 => 0x3FF#10
  | .feedA2Rearm => 0x3FF#10
  | .feedA2Noise _ => 0x300#10
  | .feedColData _ => 0x300#10
  | .feedColLastOk _ => 0x300#10
  | .feedColLastBad _ => 0x300#10
  | .reset => 0x3FF#10
  | .encode => 0x3FF#10

/-- The row's `match` in spec/opcode_table.json. -/
def rowMatch : Instr → EventWord
  | .idle => 0x000#10
  | .feedA1Hdr0 => 0x1BB#10
  | .feedA1Noise _ => 0x100#10
  | .feedA2Hdr1 => 0x151#10
  | .feedA2Rearm => 0x1BB#10
  | .feedA2Noise _ => 0x100#10
  | .feedColData _ => 0x100#10
  | .feedColLastOk _ => 0x100#10
  | .feedColLastBad _ => 0x100#10
  | .reset => 0x200#10
  | .encode => 0x300#10

/-- The context right after reset, as far as the decoder reads it there: `(AWAIT1, 0)` (70_reset_and_hazards.md R220).
In AWAIT1 no row depends on the checksum. -/
def resetCtx : DecodeCtx := { state := .await1, cursor := 0#4, computed := 0#8 }

/-- The instruction a table word spells in the reset state. Several rows share their words, and which of them a word
is depends on `state`, `cursor` and the buffer (R62), which a table word does not carry: the answer is that of the
state after reset. The event port has ten wires; bits above bit 9 do not exist (log 9). -/
def decodeTableWord (nbits w : Nat) : Option Instr :=
  match decode resetCtx (BitVec.ofNat 10 (w % 2 ^ nbits)) with
  | .ok i => some i
  | .error _ => none

end Sys2Proof
end

