-- ==== Sys2Proof/Machine/State.lean ====
section
/-! DEFINITION. The state as plain data: the three registers of 10_state.md R20, the ports of R26 to R29 and R36, the
build parameters of 00_scope.md R7, and two counters of the model's own that supply free values. -/

namespace Sys2Proof.Machine

/-- The frame buffer: the written bytes as (index, byte) pairs, indexes strictly rising and below 15. An index not
listed holds a free value (log 3), so no entry is ever dropped for equalling it. -/
abbrev Memory := List Host.Cell

/-- One sample of the desired-state port (10_state.md R29, R36): `ds_power`, `ds_fan_high`, `ds_mode[1:0]`,
`ds_target[7:0]`. -/
structure DesiredPort where
  power : Bool
  fanHigh : Bool
  mode : BitVec 2
  target : Byte
deriving DecidableEq, Repr

/-- What the host presents in one step: the event word and the port sample beside it (R26, R36). -/
structure Input where
  ev : EventWord
  ds : DesiredPort
deriving DecidableEq, Repr

/-- The snapshot (43_snapshot_decode.md R150) with the widths of the snapshot port (10_state.md R36). -/
structure Snapshot where
  power : Bool
  fanHigh : Bool
  humidity : Byte
  target : BitVec 7
  /-- `none` for mode code 11 (R155). -/
  mode : Option Mode
  compressor : Bool
  tankFull : Bool
  /-- The raw byte; its sign is the consumer's reading (R158). -/
  temperature : Byte
deriving DecidableEq, Repr

/-- The output events (10_state.md R27). -/
inductive OutputEvent where
  | frameAccepted (frame : Frame) (snap : Snapshot)
  | checksumMismatch (computed expected : Byte) (raw : Frame)
  | commandFrame (cmd : CmdFrame)
deriving DecidableEq, Repr

/-- The faults: none. The FSD never faults and raises no exception (60_exceptions.md R200, R214; log 15). -/
inductive Fault where
deriving DecidableEq, Repr

/-- The refusals: the reasons of 60_exceptions.md R204, and two of the model's own. -/
inductive Refusal where
  /-- An instruction without a meaning, raised by `exec` by name (safe). No arm does so. -/
  | notModelled (mnemonic : String)
  /-- Any event from a pair `(state, cursor)` outside 10_state.md R25's set (R25, R103). Raised by the decoder and by
  every meaning. Safe: it removes runs and adds none (R204). -/
  | unreachableState
  /-- IDLE, RESET or ENCODE with `ev[7:0] != 0` (30_encoding.md R61). Raised by the decoder. Safe. -/
  | reservedEventBits
  /-- ENCODE when `HAS_ENCODER = false` (40_control_events.md R101). Raised by ENCODE. Safe. -/
  | noEncoder
  /-- ENCODE with `d.mode = 11` (44_command_encode.md R171). Raised by ENCODE. Safe. -/
  | invalidMode
  /-- The model's own (log 7): `exec` asked to run a FEED row whose table condition does not hold, so that the spec
  gives that row no effect there. Raised by the FEED meanings, never by `step`. Safe. -/
  | rowNotSelected
deriving DecidableEq, Repr

/-- The machine. -/
structure State where
  /-- The parser-state register (10_state.md R21). -/
  state : ParserState
  /-- The index of the next buffer byte FEED writes (R22). -/
  cursor : BitVec 4
  /-- The frame buffer's written bytes (R23). -/
  buf : Memory
  /-- The model's own counter: which free contents the unlisted bytes of `buf` have (log 3). -/
  bufGen : Nat
  /-- The events the host will present, next first (R26; log 1). -/
  inputs : List Input
  /-- The desired-state port as presented in the current step (R29, R36; log 14). -/
  ds : DesiredPort
  /-- The output event of the step just made, if it emitted one (R27, R28; log 2). -/
  out : Option OutputEvent
  /-- The model's own counter of drawn targets (log 6). -/
  draws : Nat
  /-- The build parameters (00_scope.md R7; log 5). -/
  params : Params
deriving DecidableEq, Repr

/-- The port with nothing wired: power off, fan low, mode Auto, target 50 (44_command_encode.md R177). -/
def DesiredPort.default : DesiredPort :=
  { power := false, fanHigh := false, mode := Config.MODE_AUTO, target := BitVec.ofNat 8 Config.TGT_DEFAULT }

/-- The reset state of an FSD built with the parameters `p` (70_reset_and_hazards.md R220): AWAIT1, cursor 0, every
buffer byte unspecified, no output. The other fields' values are log 4's. -/
def State.resetWith (p : Params) : State :=
  { state := .await1, cursor := 0#4, buf := [], bufGen := 0, inputs := [], ds := DesiredPort.default
    out := none, draws := 0, params := p }

/-- The machine right after reset, with R7's default parameters. -/
def State.reset : State := State.resetWith Config.defaultParams

end Sys2Proof.Machine
end

