-- ==== Sys2Proof/Machine/Checksum.lean ====
section
/-! DEFINITION. The checksum engine (42_checksum.md): one combinational function, used by the completing FEED and by
the command encoder. -/

namespace Sys2Proof.Machine

/-- `checksum(bytes, lo, hi)`: the unsigned sum of `bytes[lo..hi]`, both ends included, modulo 256 (R140). -/
def checksum (bytes : List Byte) (lo hi : Nat) : Byte :=
  BitVec.ofNat 8 ((((bytes.drop lo).take (hi + 1 - lo)).map BitVec.toNat).sum)

/-- The inbound checksum: bytes 2 to 13 of a frame (R141). -/
def frameChecksum (f : Frame) : Byte :=
  checksum f.toList Config.CKS_LO Config.CKS_HI

/-- Inbound validation: the sum equals byte 14 (R141). -/
def frameValid (f : Frame) : Bool :=
  frameChecksum f == f[Config.CKS_POS]

end Sys2Proof.Machine
end

