-- ==== Sys2Proof/Machine/Ops.lean ====
section
/-! DEFINITION. The named operations over the frame buffer and the registers, and the guard every meaning begins
with. There is no operation for taking an exception or returning from one: the FSD raises none and has no trap entry
and no trap return (60_exceptions.md R200, R203, R205). -/

namespace Sys2Proof.Machine

/-- The byte listed at an index, if one is. -/
def Memory.lookup (m : Memory) (a : Nat) : Option Byte :=
  match m with
  | [] => none
  | (x, v) :: rest => if x = a then some v else Memory.lookup rest a

/-- List a byte at an index, keeping the indexes rising. -/
def Memory.insert (m : Memory) (a : Nat) (v : Byte) : Memory :=
  match m with
  | [] => [(a, v)]
  | (x, w) :: rest =>
    if a < x then (a, v) :: (x, w) :: rest
    else if a = x then (a, v) :: rest
    else (x, w) :: Memory.insert rest a v

/-- Indexes strictly rising from `lo` on, and all within the buffer. -/
def Memory.wfFrom (lo : Nat) (m : Memory) : Bool :=
  match m with
  | [] => true
  | (x, _) :: rest => decide (lo ≤ x) && decide (x < Config.FRAME_LEN) && Memory.wfFrom (x + 1) rest

/-- The canonical form of the buffer's list: indexes strictly rising, each one of 0..14 (20_memory.md R40). -/
def Memory.wf (m : Memory) : Bool := Memory.wfFrom 0 m

/-- `buf[i]` (00_scope.md R10): the byte written there, or the free value of the present contents where nothing has
been written (93_implementation_defined.md I1; log 3). -/
def State.readBuf (s : State) (i : Nat) : Byte :=
  (Memory.lookup s.buf i).getD (Config.freeBufByte s.bufGen i)

/-- `buf[i] <- v` (R10). A byte beyond the 15th position is not written: the source's bounds guard (10_state.md R25),
which no reachable state meets. -/
def State.writeBuf (s : State) (i : Nat) (v : Byte) : State :=
  if i < Config.FRAME_LEN then { s with buf := Memory.insert s.buf i v } else s

/-- `for i in 0..14: buf[i] <- any byte` (40_control_events.md R102): nothing is listed any more, and the unlisted
indexes hold the next free contents (log 3). -/
def State.forgetBuf (s : State) : State :=
  { s with buf := [], bufGen := s.bufGen + 1 }

/-- `state <- p` (R10). -/
def State.setState (s : State) (p : ParserState) : State := { s with state := p }

/-- `cursor <- v` (R10). -/
def State.setCursor (s : State) (v : BitVec 4) : State := { s with cursor := v }

/-- The step's output: `emit E`, or no event (10_state.md R27). Every meaning says which, so that no output is
retained from an earlier step (R28). -/
def State.output (s : State) (e : Option OutputEvent) : State := { s with out := e }

/-- `buf[0..14]`, all 15 bytes in arrival order (20_memory.md R42). -/
def State.frame (s : State) : Frame :=
  Vector.ofFn fun i : Fin Config.FRAME_LEN => s.readBuf i.val

/-- The registers as the FEED decoder reads them (30_encoding.md R62). -/
def State.decodeCtx (s : State) : DecodeCtx :=
  { state := s.state, cursor := s.cursor, computed := frameChecksum s.frame }

/-- A state of 10_state.md R25's set. -/
def State.isRepresentable (s : State) : Bool := representable s.state s.cursor

/-- The guard of every meaning: any event from an unreachable pair is refused (40_control_events.md R103), and a FEED
row has an effect only where its table condition holds (30_encoding.md R62; log 7). -/
def onRow (i : Instr) (s : State) (k : Host.Outcome State Fault Refusal) : Host.Outcome State Fault Refusal :=
  if s.isRepresentable then
    if rowApplies s.decodeCtx i then k else .refused .rowNotSelected
  else .refused .unreachableState

/-- The refusal a rejected word gives (60_exceptions.md R204). -/
def rejectRefusal : DecodeReject → Refusal
  | .unreachableState => .unreachableState
  | .reservedEventBits => .reservedEventBits

/-- What the host presents in this step: the head of its list, or, where it presents nothing, IDLE, which is "no byte
available this step" (10_state.md R26; log 1). -/
def State.presented (s : State) : Input :=
  match s.inputs with
  | [] => { ev := encode .idle, ds := s.ds }
  | i :: _ => i

/-- The step takes its event off the list and samples the port beside it (10_state.md R26, R29). -/
def State.takeInput (s : State) : State :=
  { s with inputs := s.inputs.tail, ds := s.presented.ds }

end Sys2Proof.Machine
end

