-- ==== Sys2Proof/Machine/Operands.lean ====
section
/-! DEFINITION. The operand forms: the fields of an inbound frame (30_encoding.md R63, R65), the mode and target codes
(R70, R71), and the desired-state operand of ENCODE (10_state.md R29). -/

namespace Sys2Proof.Machine

/-- A boolean field is true when its bit is 1 (30_encoding.md R65; the mask as 00_scope.md R8 reads it). -/
def bitSet (b mask : Byte) : Bool := b &&& mask != 0#8

/-- `b2[7]` (30_encoding.md R65). -/
def fieldPower (f : Frame) : Bool := bitSet f[Config.POWER_POS] Config.POWER_MASK
/-- `b3[5]` (R65). -/
def fieldFanHigh (f : Frame) : Bool := bitSet f[Config.FAN_POS] Config.FAN_MASK
/-- `b3[1:0]` (R65): the mask leaves the two low bits, which are the code. -/
def fieldModeCode (f : Frame) : BitVec 2 := (f[Config.MODE_POS] &&& Config.MODE_MASK).setWidth 2
/-- `b4[7:0]` (R65). -/
def fieldHumidity (f : Frame) : Byte := f[Config.HUMIDITY_POS]
/-- `b5[7:0]` (R65). -/
def fieldTgtCode (f : Frame) : Byte := f[Config.TARGET_POS]
/-- `b7[7]` (R65). -/
def fieldCompressor (f : Frame) : Bool := bitSet f[Config.COMPRESSOR_POS] Config.COMPRESSOR_MASK
/-- `b9[2]` (R65, 90_conflicts.md C1). -/
def fieldTankFull (f : Frame) : Bool := bitSet f[Config.TANK_POS] Config.TANK_MASK
/-- `b10[7:0]` (R65). -/
def fieldTemperature (f : Frame) : Byte := f[Config.TEMPERATURE_POS]

/-- The 2-bit mode code (R70). -/
def modeCode : Mode → BitVec 2
  | .auto => Config.MODE_AUTO
  | .cold => Config.MODE_COLD
  | .humidity => Config.MODE_HUMIDITY

/-- The mode a code stands for; 11 is no mode (R70, 43_snapshot_decode.md R155). -/
def modeOfCode (c : BitVec 2) : Option Mode :=
  if c = Config.MODE_AUTO then some .auto
  else if c = Config.MODE_COLD then some .cold
  else if c = Config.MODE_HUMIDITY then some .humidity
  else none

/-- The 2-bit code of the parser-state register (10_state.md R21). -/
def parserCode : ParserState → BitVec 2
  | .await1 => 0b00#2
  | .await2 => 0b01#2
  | .collect => 0b10#2

/-- A desired state whose mode is one of the three (44_command_encode.md R171). -/
structure DesiredState where
  power : Bool
  fanHigh : Bool
  mode : Mode
  target : Byte
deriving DecidableEq, Repr

/-- The operand on the port, or none where its mode code is 11 (R171). -/
def desiredOfPort (d : DesiredPort) : Option DesiredState :=
  match modeOfCode d.mode with
  | none => none
  | some m => some { power := d.power, fanHigh := d.fanHigh, mode := m, target := d.target }

/-- The port an operand drives (10_state.md R29). -/
def portOfDesired (d : DesiredState) : DesiredPort :=
  { power := d.power, fanHigh := d.fanHigh, mode := modeCode d.mode, target := d.target }

/-- The port an adapter drives when some inputs are not wired: power off, mode Auto, target 50, fan low
(44_command_encode.md R177; condition E2 of 60_exceptions.md R200). -/
def portOfWired (power fanHigh : Option Bool) (mode : Option Mode) (target : Option Byte) : DesiredPort :=
  { power := power.getD DesiredPort.default.power
    fanHigh := fanHigh.getD DesiredPort.default.fanHigh
    mode := (mode.map modeCode).getD DesiredPort.default.mode
    target := target.getD DesiredPort.default.target }

end Sys2Proof.Machine
end

