-- ==== Sys2Proof/Machine/Flags.lean ====
section
/-! DEFINITION. The FSD has no status flags and no condition codes (10_state.md R32), so no event writes one. What
stands here is the spec's own list of conditions (60_exceptions.md R200), names for its tables that no port carries. -/

namespace Sys2Proof.Machine

/-- The condition codes of 60_exceptions.md R200. -/
inductive Condition where
  /-- Framing noise, not reported. -/
  | e0
  /-- Checksum mismatch, reported by the `ChecksumMismatch` event. -/
  | e1
  /-- Missing optional collaborator: the adapter's, never the FSD's. -/
  | e2
deriving DecidableEq, Repr

/-- The condition an instruction raises (R200): noise and the 0xBB run are E0, a mismatch is E1. -/
def conditionOf : Instr → Option Condition
  | .idle => none
  | .feedA1Hdr0 => none
  | .feedA1Noise _ => some .e0
  | .feedA2Hdr1 => none
  | .feedA2Rearm => some .e0
  | .feedA2Noise _ => some .e0
  | .feedColData _ => none
  | .feedColLastOk _ => none
  | .feedColLastBad _ => some .e1
  | .reset => none
  | .encode => none

/-- Whether a condition is reported by an output event (R200). -/
def conditionReported : Condition → Bool
  | .e0 => false
  | .e1 => true
  | .e2 => false

end Sys2Proof.Machine
end

