-- ==== Sys2Proof/Machine/Command.lean ====
section
/-! DEFINITION. The command encoder (44_command_encode.md): combinational and stateless. -/

namespace Sys2Proof.Machine

/-- Byte 2: power (44_command_encode.md R172). -/
def cmdPower (d : DesiredState) : Byte := if d.power then Config.CMD_POWER_ON else 0x00#8

/-- The mode base of byte 3 (R173): the mode code in the low two bits (30_encoding.md R70). -/
def modeBase (m : Mode) : Byte := (modeCode m).setWidth 8

/-- Byte 3: mode and fan, and the fixed bit 0x10 (R173). -/
def cmdModeFan (d : DesiredState) : Byte :=
  modeBase d.mode ||| (if d.fanHigh then Config.CMD_FAN_HIGH else 0x00#8) ||| Config.CMD_FIXED_BIT

/-- `clamp(v, 30, 90)` (00_scope.md R10). -/
def clampTarget (v : Nat) : Nat := min (max v Config.TGT_MIN) Config.TGT_MAX

/-- Byte 5: the target code (R174). The division rounds down; the target is read only in Humidity mode. -/
def targetCode (m : Mode) (t : Byte) : Byte :=
  match m with
  | .cold => Config.CMD_TGT_COLD
  | .auto => Config.CMD_TGT_AUTO
  | .humidity =>
    BitVec.ofNat 8 ((clampTarget t.toNat - Config.TGT_MIN) / Config.TGT_STEP + Config.TGT_OFS)

/-- The command frame before its checksum is written, assignment by assignment as R170 writes it; the bytes without a
field hold the reserved value (R175). -/
def commandBody (d : DesiredState) : CmdFrame :=
  ((((Vector.replicate Config.CMD_LEN Config.CMD_RESERVED).set Config.HDR0_POS Config.HDR0).set
    Config.HDR1_POS Config.HDR1).set Config.CMD_POWER_POS (cmdPower d)).set Config.CMD_MODE_POS (cmdModeFan d)
    |>.set Config.CMD_TARGET_POS (targetCode d.mode d.target)

/-- Byte 9: the checksum of bytes 2 to 8 (R176, 42_checksum.md R142). -/
def cmdChecksum (d : DesiredState) : Byte :=
  checksum (commandBody d).toList Config.CMD_CKS_LO Config.CMD_CKS_HI

/-- The command frame (R170). -/
def commandFrame (d : DesiredState) : CmdFrame :=
  (commandBody d).set Config.CMD_CKS_POS (cmdChecksum d)

end Sys2Proof.Machine
end

