-- ==== Sys2Proof/Machine/Control.lean ====
section
/-! DEFINITION. The control events: IDLE, RESET and ENCODE (40_control_events.md). Their reserved-bit check is the
decoder's (R61); the order of checks is 60_exceptions.md R202's. -/

namespace Sys2Proof.Machine

/-- IDLE (40_control_events.md R100): no state is read or written, and there is no output. -/
def execIdle (s : State) : Host.Outcome State Fault Refusal :=
  onRow .idle s (.next (s.output none))

/-- RESET (R102): AWAIT1, cursor 0, every buffer byte any byte, no output. -/
def execReset (s : State) : Host.Outcome State Fault Refusal :=
  onRow .reset s (.next ((((s.setState .await1).setCursor 0#4).forgetBuf).output none))

/-- ENCODE (R101, 44_command_encode.md R170): one command frame from the port's operand. -/
def execEncode (s : State) : Host.Outcome State Fault Refusal :=
  onRow .encode s
    (if s.params.hasEncoder then
      match desiredOfPort s.ds with
      | none => .refused .invalidMode
      | some d => .next (s.output (some (.commandFrame (commandFrame d))))
    else .refused .noEncoder)

end Sys2Proof.Machine
end

