-- ==== Sys2Proof/Machine/Snapshot.lean ====
section
/-! DEFINITION. The snapshot decoder (43_snapshot_decode.md): combinational, total over all 15-byte frames. -/

namespace Sys2Proof.Machine

/-- Whether a raw target code is one the source gives no result for (43_snapshot_decode.md R154:
15..255). -/
def targetCodeHigh (r : Byte) : Bool := decide (Config.TGT_CODE_MAX < r.toNat)

/-- Whether a decode draws a free target: `TGT_HIGH_POLICY = draw` and a raw code 15..255 (R154). -/
def drawsTarget (policy : TgtHighPolicy) (r : Byte) : Bool := policy == .draw && targetCodeHigh r

/-- `decodeTarget(r)` (R154), in percent: 50 below `TGT_OFS`; the inverse of the encoder's formula, clamped to 90; and
under the `draw` policy, for codes 15..255, the free value `d` above 30. -/
def decodeTargetPercent (policy : TgtHighPolicy) (d : Config.TargetDraw) (r : Byte) : Nat :=
  if r.toNat < Config.TGT_OFS then Config.TGT_DEFAULT
  else if drawsTarget policy r then Config.TGT_MIN + d.val
  else min (Config.TGT_MIN + Config.TGT_STEP * (r.toNat - Config.TGT_OFS)) Config.TGT_MAX

/-- The decoded target on the 7 wires of the snapshot port (10_state.md R36). -/
def decodeTarget (policy : TgtHighPolicy) (d : Config.TargetDraw) (r : Byte) : BitVec 7 :=
  BitVec.ofNat 7 (decodeTargetPercent policy d r)

/-- `decode(f)` (R150, field by field R151 to R158). -/
def decodeSnapshot (policy : TgtHighPolicy) (d : Config.TargetDraw) (f : Frame) : Snapshot :=
  { power := fieldPower f
    fanHigh := fieldFanHigh f
    humidity := fieldHumidity f
    target := decodeTarget policy d (fieldTgtCode f)
    mode := modeOfCode (fieldModeCode f)
    compressor := fieldCompressor f
    tankFull := fieldTankFull f
    temperature := fieldTemperature f }

/-- A consumer's reading of the temperature byte: unsigned, or two's complement with `TEMP_SIGNED = true` (R158). -/
def temperatureReading (p : Params) (snap : Snapshot) : Int :=
  if p.tempSigned then snap.temperature.toInt else Int.ofNat snap.temperature.toNat

/-- The snapshot of a frame in the present state: the policy it is built with and the next free draw (log 6). DESIGN
CHOICE, unsafe (log 6): two states, or two instances of a system, with the same count of draws draw the same target. -/
def State.snapshotOf (s : State) (f : Frame) : Snapshot :=
  decodeSnapshot s.params.tgtHighPolicy (Config.freeTargetDraw s.draws) f

/-- A decode that draws a free target uses that draw up (log 6). -/
def State.noteDraw (s : State) (f : Frame) : State :=
  if drawsTarget s.params.tgtHighPolicy (fieldTgtCode f) then { s with draws := s.draws + 1 } else s

end Sys2Proof.Machine
end

