-- ==== Sys2Proof/Machine/Feed.lean ====
section
/-! DEFINITION. The eight FEED rows (41_feed.md R111 to R118), one meaning each. -/

namespace Sys2Proof.Machine

/-- FEED.A1_HDR0 (41_feed.md R111): `state <- AWAIT2`; the byte is not stored. -/
def execFeedA1Hdr0 (s : State) : Host.Outcome State Fault Refusal :=
  onRow .feedA1Hdr0 s (.next ((s.setState .await2).output none))

/-- FEED.A1_NOISE (R112): the byte is discarded. -/
def execFeedA1Noise (b : Byte) (s : State) : Host.Outcome State Fault Refusal :=
  onRow (.feedA1Noise b) s (.next (s.output none))

/-- FEED.A2_HDR1 (R113): the header is complete. Bytes 2..14 keep what they held (92_eei_decisions.md D6; log 10). -/
def execFeedA2Hdr1 (s : State) : Host.Outcome State Fault Refusal :=
  onRow .feedA2Hdr1 s
    (.next (((((s.writeBuf Config.HDR0_POS Config.HDR0).writeBuf Config.HDR1_POS Config.HDR1).setCursor
      (BitVec.ofNat 4 Config.HDR_LEN)).setState .collect).output none))

/-- FEED.A2_REARM (R114): a repeated first header byte; stay. -/
def execFeedA2Rearm (s : State) : Host.Outcome State Fault Refusal :=
  onRow .feedA2Rearm s (.next (s.output none))

/-- FEED.A2_NOISE (R115): `state <- AWAIT1`; the byte is not examined again. -/
def execFeedA2Noise (b : Byte) (s : State) : Host.Outcome State Fault Refusal :=
  onRow (.feedA2Noise b) s (.next ((s.setState .await1).output none))

/-- FEED.COL_DATA (R116): `buf[cursor] <- b`, `cursor <- cursor + 1`, whatever the byte (R119). -/
def execFeedColData (b : Byte) (s : State) : Host.Outcome State Fault Refusal :=
  onRow (.feedColData b) s
    (.next (((s.writeBuf s.cursor.toNat b).setCursor (s.cursor + 1#4)).output none))

/-- The common start of R117 and R118: `buf[14] <- b`, `cursor <- 15` (transient). -/
def State.completeFrame (s : State) (b : Byte) : State :=
  (s.writeBuf Config.CKS_POS b).setCursor (BitVec.ofNat 4 Config.FRAME_LEN)

/-- The 15 bytes of the frame that `b` completes, `buf[0..14]` after the write. -/
def State.completedFrame (s : State) (b : Byte) : Frame := (s.completeFrame b).frame

/-- The common end of R117 and R118: `cursor <- 0`, `state <- AWAIT1`. -/
def State.awaitNextFrame (s : State) : State :=
  (s.setCursor 0#4).setState .await1

/-- FEED.COL_LAST_OK (R117): the frame and its snapshot are emitted. -/
def execFeedColLastOk (b : Byte) (s : State) : Host.Outcome State Fault Refusal :=
  onRow (.feedColLastOk b) s
    (.next ((((s.completeFrame b).noteDraw (s.completedFrame b)).output
      (some (.frameAccepted (s.completedFrame b) (s.snapshotOf (s.completedFrame b))))).awaitNextFrame))

/-- FEED.COL_LAST_BAD (R118): the computed sum, the carried byte and the raw frame are emitted. -/
def execFeedColLastBad (b : Byte) (s : State) : Host.Outcome State Fault Refusal :=
  onRow (.feedColLastBad b) s
    (.next (((s.completeFrame b).output (some (.checksumMismatch
      (frameChecksum (s.completedFrame b)) (s.completedFrame b)[Config.CKS_POS] (s.completedFrame b)))).awaitNextFrame))

end Sys2Proof.Machine
end

