-- ==== Sys2Proof/Machine/Dispatch.lean ====
section
/-! DEFINITION. One arm per row of the opcode table. -/

namespace Sys2Proof.Machine

-- The meaning of each instruction (40_control_events.md, 41_feed.md).
def exec (i : Instr) (s : State) : Host.Outcome State Fault Refusal :=
  match i with
  | .idle => Sys2Proof.Machine.execIdle s
  | .feedA1Hdr0 => Sys2Proof.Machine.execFeedA1Hdr0 s
  | .feedA1Noise b => Sys2Proof.Machine.execFeedA1Noise b s
  | .feedA2Hdr1 => Sys2Proof.Machine.execFeedA2Hdr1 s
  | .feedA2Rearm => Sys2Proof.Machine.execFeedA2Rearm s
  | .feedA2Noise b => Sys2Proof.Machine.execFeedA2Noise b s
  | .feedColData b => Sys2Proof.Machine.execFeedColData b s
  | .feedColLastOk b => Sys2Proof.Machine.execFeedColLastOk b s
  | .feedColLastBad b => Sys2Proof.Machine.execFeedColLastBad b s
  | .reset => Sys2Proof.Machine.execReset s
  | .encode => Sys2Proof.Machine.execEncode s

end Sys2Proof.Machine
end

