-- ==== Sys2Proof/Machine/Step.lean ====
section
/-! DEFINITION. One step: one input event (00_scope.md R11, 10_state.md R26). -/

namespace Sys2Proof.Machine

/-- Decode the presented event in the present registers, take it off the host's list, and run it. A rejected word is
refused and changes nothing (60_exceptions.md R202, R204). -/
def step (s : State) : Host.Outcome State Fault Refusal :=
  match decode s.decodeCtx s.presented.ev with
  | .ok i => exec i s.takeInput
  | .error r => .refused (rejectRefusal r)

/-- Present a word as the next event: it takes the place of the event the host would present, with the same port
sample. The event port has ten wires, so bits above bit 9 do not exist (log 9). -/
def State.withFetchWord (s : State) (nbits w : Nat) : State :=
  { s with inputs := { ev := BitVec.ofNat 10 (w % 2 ^ nbits), ds := s.presented.ds } :: s.inputs.tail }

end Sys2Proof.Machine
end

