-- ==== Sys2Proof/Machine/Ports.lean ====
section
/-! DEFINITION. The signal-level view of the output ports (10_state.md R36, 43_snapshot_decode.md R159). A data signal
has a value only in the step whose strobe is 1 (R28), so each is an option. -/

namespace Sys2Proof.Machine

/-- The output signals of one step (10_state.md R36). -/
structure OutPorts where
  frmValid : Bool
  frmData : Option Frame
  snapPower : Option Bool
  snapFanHigh : Option Bool
  snapCompressor : Option Bool
  snapTankFull : Option Bool
  /-- `snap_mode[1:0]`; no value when `snap_mode_valid = 0` (43_snapshot_decode.md R155). -/
  snapMode : Option (BitVec 2)
  snapModeValid : Option Bool
  snapHumidity : Option Byte
  snapTemperature : Option Byte
  snapTarget : Option (BitVec 7)
  errValid : Bool
  errComputed : Option Byte
  errExpected : Option Byte
  errRaw : Option Frame
  cmdValid : Bool
  cmdData : Option CmdFrame
deriving DecidableEq, Repr

/-- All strobes 0: no data signal has a value. -/
def OutPorts.quiet : OutPorts :=
  { frmValid := false, frmData := none, snapPower := none, snapFanHigh := none, snapCompressor := none
    snapTankFull := none, snapMode := none, snapModeValid := none, snapHumidity := none, snapTemperature := none
    snapTarget := none, errValid := false, errComputed := none, errExpected := none, errRaw := none
    cmdValid := false, cmdData := none }

/-- The signals of a step's output event, one strobe per event kind (10_state.md R27, R36, R159). -/
def portsOf : Option OutputEvent → OutPorts
  | none => OutPorts.quiet
  | some (.frameAccepted f snap) =>
    { OutPorts.quiet with
      frmValid := true, frmData := some f, snapPower := some snap.power, snapFanHigh := some snap.fanHigh
      snapCompressor := some snap.compressor, snapTankFull := some snap.tankFull
      snapMode := snap.mode.map modeCode, snapModeValid := some snap.mode.isSome
      snapHumidity := some snap.humidity, snapTemperature := some snap.temperature
      snapTarget := some snap.target }
  | some (.checksumMismatch c e raw) =>
    { OutPorts.quiet with errValid := true, errComputed := some c, errExpected := some e, errRaw := some raw }
  | some (.commandFrame cmd) => { OutPorts.quiet with cmdValid := true, cmdData := some cmd }

/-- The signals of the step just made. -/
def State.ports (s : State) : OutPorts := portsOf s.out

end Sys2Proof.Machine
end

