-- ==== Sys2Proof/Machine/Stream.lean ====
section
/-! DEFINITION. The spec's textual form of event streams as lists of inputs (30_encoding.md R72). -/

namespace Sys2Proof.Machine

/-- An event presented with the default port beside it. -/
def inputOf (i : Instr) : Input := { ev := encode i, ds := DesiredPort.default }

/-- `FEED 0xNN`: the word `0x100 + 0xNN` (30_encoding.md R72). -/
def feed (b : Byte) : Input := { ev := eventWord 0b01#2 b, ds := DesiredPort.default }

/-- `ENCODE power=P fan=F mode=M target=T` (R72). -/
def encodeRequest (d : DesiredState) : Input := { ev := encode .encode, ds := portOfDesired d }

/-- `FEEDS b0 b1 ... bn` (R72). -/
def feeds (bs : List Byte) : List Input := bs.map feed

/-- The 15 bytes of a frame with the given 12 payload bytes and last byte. -/
def frameBytes (payload : Vector Byte Config.PAYLOAD_LEN) (k : Byte) : List Byte :=
  Config.HDR0 :: Config.HDR1 :: (payload.toList ++ [k])

/-- The modular sum of the payload: the `k` of R72's `FRAME`. -/
def payloadSum (payload : Vector Byte Config.PAYLOAD_LEN) : Byte := checksum payload.toList 0 (Config.PAYLOAD_LEN - 1)

/-- `FRAME p2 p3 ... p13` (R72): the checksum byte is the payload's sum. -/
def frameStream (payload : Vector Byte Config.PAYLOAD_LEN) : List Input :=
  feeds (frameBytes payload (payloadSum payload))

/-- `BADFRAME p2 ... p13 k` (R72), written only where `k` is not the checksum. -/
def badFrameStream (payload : Vector Byte Config.PAYLOAD_LEN) (k : Byte) : List Input :=
  feeds (frameBytes payload k)

/-- Whether an input's word is of kind FEED, RESET, IDLE or ENCODE, by its kind bits (30_encoding.md R60). -/
def Input.isFeed (i : Input) : Bool := evKind i.ev == 0b01#2
/-- Kind RESET. -/
def Input.isReset (i : Input) : Bool := evKind i.ev == 0b10#2
/-- The IDLE word itself. -/
def Input.isIdle (i : Input) : Bool := i.ev == encode .idle
/-- The ENCODE word itself. -/
def Input.isEncode (i : Input) : Bool := i.ev == encode .encode

end Sys2Proof.Machine
end

