-- ==== Sys2Proof/Machine/Run.lean ====
section
/-! DEFINITION. Runs and their observation (70_reset_and_hazards.md R223): the output events in order, each with its
step index. A run that holds a refusal has no observation. -/

namespace Sys2Proof.Machine

/-- The state with the given events to come. -/
def State.withInputs (s : State) (ins : List Input) : State := { s with inputs := ins }

/-- The output events of `n` steps, each with its step index, the first step having index `k`; none if a step is
refused (R223, 60_exceptions.md R204). -/
def observeSteps (n k : Nat) (s : State) : Option (List (Nat × OutputEvent)) :=
  match n with
  | 0 => some []
  | n + 1 =>
    match step s with
    | .next t =>
      match t.out with
      | none => observeSteps n (k + 1) t
      | some e => (observeSteps n (k + 1) t).map fun es => (k, e) :: es
    | .fault _ => none
    | .refused _ => none

/-- The observation of the events `ins` from the state `s`, with step indexes counted from 1. -/
def observeFrom (s : State) (ins : List Input) : Option (List (Nat × OutputEvent)) :=
  observeSteps ins.length 1 (s.withInputs ins)

/-- The observation of a run: from the reset state of an FSD built with `p` (R223). -/
def observation (p : Params) (ins : List Input) : Option (List (Nat × OutputEvent)) :=
  observeFrom (State.resetWith p) ins

/-- The output events alone, in order. -/
def outputsFrom (s : State) (ins : List Input) : Option (List OutputEvent) :=
  (observeFrom s ins).map fun es => es.map Prod.snd

/-- The state after the events `ins`, presented one per step, if no step is refused: the host's own run. -/
def stateAfter (s : State) (ins : List Input) : Option State :=
  match Host.Core.run Sys2Proof.core ins.length (s.withInputs ins) with
  | .next t => some t
  | .fault _ => none
  | .refused _ => none

/-- The bytes fed by the events `ins` after the most recent RESET among them, in order (41_feed.md R121). -/
def bytesFed (ins : List Input) : List Byte :=
  ins.foldl (fun acc i => if i.isReset then [] else if i.isFeed then acc ++ [evData i.ev] else acc) []

end Sys2Proof.Machine
end

