-- ==== Sys2Proof/Machine/System.lean ====
section
/-! DEFINITION. A system of independent instances (60_exceptions.md R211, `N_INSTANCES` of 00_scope.md R7): each has
its own registers and its own event stream, and they share no state. Log 13 names what the spec leaves open of a system
and this file settles. -/

namespace Sys2Proof.Machine

/-- The instances of a system, each a whole FSD. -/
abbrev System := List State

/-- `N_INSTANCES` is at least 1 (00_scope.md R7). -/
abbrev System.wf (sys : System) : Prop := 1 ≤ sys.length

/-- A system of `n` instances after power-on, all built with `p`. DESIGN CHOICE, unsafe (logs 3, 6 and 13): the free
values of all instances come from the same sequences, so that two instances hold equal unwritten buffer bytes and draw
equal targets, where the spec ties nothing together. -/
def System.reset (n : InstanceCount) (p : Params) : System := List.replicate n.val (State.resetWith p)

/-- Instance `k` takes one step. DESIGN CHOICE (log 13): which instance steps next is the caller's choice; an index no
instance has changes nothing; and a step that instance `k` refuses is refused for the system, which has no successor
then, since the spec gives a refusal's effect on a run of one FSD only (60_exceptions.md R204, 70_reset_and_hazards.md
R223) and is silent on the other instances. -/
def System.stepAt (sys : System) (k : Nat) : Host.Outcome System Fault Refusal :=
  match sys[k]? with
  | none => .next sys
  | some s =>
    match step s with
    | .next t => .next (sys.set k t)
    | .fault f => .fault f
    | .refused r => .refused r

end Sys2Proof.Machine
end

