-- ==== Sys2Proof/Safety.lean ====
section
/-! DEFINITION. What counts as a safe state and a safe run, in the terms the statements use. -/

namespace Sys2Proof.Machine

/-- The registers hold one of 10_state.md R25's pairs. -/
abbrev State.Representable (s : State) : Prop := s.isRepresentable = true

/-- The state-only half of the buffer invariant (10_state.md R24): while collecting, the buffer begins with the
header. -/
abbrev State.HeaderHeld (s : State) : Prop :=
  s.state = .collect → s.readBuf 0 = Config.HDR0 ∧ s.readBuf 1 = Config.HDR1

/-- The invariant of every step: a representable pair, the buffer's list in canonical form, and the header held. -/
structure State.Inv (s : State) : Prop where
  representable : s.Representable
  bufCanonical : Memory.wf s.buf = true
  header : s.HeaderHeld

/-- What no event writes: the parameters, and the host's side of the interface (the events to come and the port). -/
abbrev State.SameOutside (s t : State) : Prop :=
  t.params = s.params ∧ t.inputs = s.inputs ∧ t.ds = s.ds

/-- The whole frame buffer is as before, byte by byte. -/
abbrev State.SameBuf (s t : State) : Prop := ∀ i : Nat, t.readBuf i = s.readBuf i

/-- The bytes of the current frame the buffer holds: `buf[0..cursor-1]` (10_state.md R24). -/
def State.bytesHeld (s : State) : List Byte := (List.range s.cursor.toNat).map s.readBuf

/-- An event of the frame decoder, not of the command encoder. -/
def OutputEvent.isFrameEvent : OutputEvent → Bool
  | .frameAccepted _ _ => true
  | .checksumMismatch _ _ _ => true
  | .commandFrame _ => false

end Sys2Proof.Machine
end

