-- ==== Sys2Proof/Certificates/Slice0/Obligations.lean ====
section
/-! DEFINITION. The statements for the provers. Each docstring says which rule of spec/ it formalises, or that it is
the model's own choice, with its log entry. -/

open Sys2Proof Sys2Proof.Machine

/-! ## Encoding -/

/-- Words written out from the opcode table's patterns decode to their rows (30_encoding.md section 1): one word of
each row, each in a context of that row. -/
def Obligations.SpecWordsDecodeToTheirRows : Prop :=
  decode ⟨.collect, 7#4, 0#8⟩ 0b0000000000#10 = .ok .idle ∧
  decode ⟨.await1, 0#4, 0#8⟩ 0b0110111011#10 = .ok .feedA1Hdr0 ∧
  decode ⟨.await1, 0#4, 0#8⟩ 0b0101010001#10 = .ok (.feedA1Noise 0x51#8) ∧
  decode ⟨.await2, 0#4, 0#8⟩ 0b0101010001#10 = .ok .feedA2Hdr1 ∧
  decode ⟨.await2, 0#4, 0#8⟩ 0b0110111011#10 = .ok .feedA2Rearm ∧
  decode ⟨.await2, 0#4, 0#8⟩ 0b0101010000#10 = .ok (.feedA2Noise 0x50#8) ∧
  decode ⟨.collect, 13#4, 0#8⟩ 0b0110111011#10 = .ok (.feedColData 0xBB#8) ∧
  decode ⟨.collect, 14#4, 0x42#8⟩ 0b0101000010#10 = .ok (.feedColLastOk 0x42#8) ∧
  decode ⟨.collect, 14#4, 0x42#8⟩ 0b0101000011#10 = .ok (.feedColLastBad 0x43#8) ∧
  decode ⟨.collect, 14#4, 0#8⟩ 0b1000000000#10 = .ok .reset ∧
  decode ⟨.await1, 0#4, 0#8⟩ 0b1100000000#10 = .ok .encode

/-- Decode and encode agree: in every context of a representable pair, the word of an instruction whose row applies
there decodes to that instruction, with every operand (30_encoding.md R60, R62, R64); and every well-formed
instruction has such a context. -/
def Obligations.DecodeOfEncodeIsTheInstruction : Prop :=
  (∀ (c : DecodeCtx) (i : Instr), representable c.state c.cursor = true → rowApplies c i = true →
    decode c (encode i) = .ok i) ∧
  (∀ i : Instr, i.wf = true → ∃ c : DecodeCtx, representable c.state c.cursor = true ∧ decode c (encode i) = .ok i)

/-- The other direction: whatever word decodes to an instruction is that instruction's word, and the instruction is
well-formed and its row applies (30_encoding.md R60 to R64). -/
def Obligations.DecodedWordIsTheEncodedWord : Prop :=
  ∀ (c : DecodeCtx) (w : EventWord) (i : Instr), decode c w = .ok i →
    encode i = w ∧ i.wf = true ∧ rowApplies c i = true ∧ representable c.state c.cursor = true

/-- The FEED map of 30_encoding.md R62: in every representable state and for every byte, the FEED word decodes to the
row the map names, and exactly one of the rows that share the word applies. -/
def Obligations.FeedWordSelectsExactlyOneRow : Prop :=
  ∀ (c : DecodeCtx) (b : Byte), representable c.state c.cursor = true →
    (c.state = .await1 → b = 0xBB#8 → decode c (eventWord 0b01#2 b) = .ok .feedA1Hdr0) ∧
    (c.state = .await1 → b ≠ 0xBB#8 → decode c (eventWord 0b01#2 b) = .ok (.feedA1Noise b)) ∧
    (c.state = .await2 → b = 0x51#8 → decode c (eventWord 0b01#2 b) = .ok .feedA2Hdr1) ∧
    (c.state = .await2 → b = 0xBB#8 → decode c (eventWord 0b01#2 b) = .ok .feedA2Rearm) ∧
    (c.state = .await2 → b ≠ 0x51#8 → b ≠ 0xBB#8 → decode c (eventWord 0b01#2 b) = .ok (.feedA2Noise b)) ∧
    (c.state = .collect → c.cursor ≠ 14#4 → decode c (eventWord 0b01#2 b) = .ok (.feedColData b)) ∧
    (c.state = .collect → c.cursor = 14#4 → c.computed = b →
      decode c (eventWord 0b01#2 b) = .ok (.feedColLastOk b)) ∧
    (c.state = .collect → c.cursor = 14#4 → c.computed ≠ b →
      decode c (eventWord 0b01#2 b) = .ok (.feedColLastBad b)) ∧
    (∃ i : Instr, (rowApplies c i = true ∧ encode i = eventWord 0b01#2 b) ∧
      ∀ j : Instr, rowApplies c j = true ∧ encode j = eventWord 0b01#2 b → j = i)

/-- The match and mask pairs of 30_encoding.md R64 over all words: in a representable state a word is accepted exactly
when it meets the pair of one of the four kinds; each kind's instructions are accepted exactly on that kind's pair; the
FEED rows with a fixed byte exactly on theirs, told apart by `state`; and a rejected word has nonzero reserved bits. -/
def Obligations.AcceptedWordsAreTheMaskedPatterns : Prop :=
  ∀ (c : DecodeCtx) (w : EventWord), representable c.state c.cursor = true →
    ((∃ i, decode c w = .ok i) ↔
      w &&& 0x3FF#10 = 0x000#10 ∨ w &&& 0x300#10 = 0x100#10 ∨ w &&& 0x3FF#10 = 0x200#10 ∨
        w &&& 0x3FF#10 = 0x300#10) ∧
    (decode c w = .ok .idle ↔ w &&& 0x3FF#10 = 0x000#10) ∧
    (decode c w = .ok .reset ↔ w &&& 0x3FF#10 = 0x200#10) ∧
    (decode c w = .ok .encode ↔ w &&& 0x3FF#10 = 0x300#10) ∧
    ((∃ i, decode c w = .ok i ∧ i ≠ .idle ∧ i ≠ .reset ∧ i ≠ .encode) ↔ w &&& 0x300#10 = 0x100#10) ∧
    (w &&& 0x300#10 = 0x100#10 → ∃ i, decode c w = .ok i ∧ encode i = w) ∧
    (decode c w = .ok .feedA1Hdr0 ↔ w &&& 0x3FF#10 = 0x1BB#10 ∧ c.state = .await1) ∧
    (decode c w = .ok .feedA2Rearm ↔ w &&& 0x3FF#10 = 0x1BB#10 ∧ c.state = .await2) ∧
    (decode c w = .ok .feedA2Hdr1 ↔ w &&& 0x3FF#10 = 0x151#10 ∧ c.state = .await2) ∧
    (∀ r, decode c w = .error r → w &&& 0x300#10 ≠ 0x100#10 ∧ w &&& 0x0FF#10 ≠ 0#10)

/-! ## The step -/

/-- A step runs the decoded instruction: it decodes the presented word in the present registers, takes the event off
the host's list, and is exec of the instruction on that state. Three clauses are the model's choice and no rule of the
spec: that the host's events stand in a list and that an empty list presents IDLE (log 1), and that every step copies
the port sample beside its event into `ds`, and keeps `ds` where nothing is presented (log 14), where 10_state.md R36
says only that ENCODE's operand is sampled in the ENCODE step. -/
def Obligations.StepRunsTheDecodedInstruction : Prop :=
  (∀ (s : State) (i : Instr), decode s.decodeCtx s.presented.ev = .ok i → step s = exec i s.takeInput) ∧
  (∀ s : State, s.takeInput = { s with inputs := s.inputs.tail, ds := s.presented.ds }) ∧
  (∀ (s : State) (e : Input) (rest : List Input), s.inputs = e :: rest → s.presented = e) ∧
  (∀ s : State, s.inputs = [] → s.presented.ev = 0x000#10 ∧ s.presented.ds = s.ds)

/-- A table word placed as the next event is the one the next step decodes, and after reset it is run as the row
`decodeTableWord` names (the model's reading of the host's interface, log 9). -/
def Obligations.PlacedWordRunsAsTheTableWordDecodes : Prop :=
  (∀ (s : State) (nbits w : Nat), (s.withFetchWord nbits w).presented.ev = BitVec.ofNat 10 (w % 2 ^ nbits) ∧
    (s.withFetchWord nbits w).decodeCtx = s.decodeCtx) ∧
  (∀ (nbits w : Nat) (i : Instr), decodeTableWord nbits w = some i →
    step (State.reset.withFetchWord nbits w) = exec i (State.reset.withFetchWord nbits w).takeInput)

/-- Nonzero reserved bits are refused, and every FEED word is legal (30_encoding.md R61): the host's state is what it
was, since a refusal has no next state. -/
def Obligations.ReservedBitsRefusedAndEveryFeedWordLegal : Prop :=
  (∀ s : State, s.Representable → evKind s.presented.ev ≠ 0b01#2 → evData s.presented.ev ≠ 0#8 →
    step s = .refused .reservedEventBits) ∧
  (∀ (s : State) (b : Byte), s.Representable → s.presented.ev = eventWord 0b01#2 b →
    ∃ t, step s = .next t)

/-- The refusals of 60_exceptions.md R204, each exactly when its row of the table says, in the order of R202; and a
step refuses for no other reason. -/
def Obligations.StepRefusesExactlyAsTheTableSays : Prop :=
  ∀ s : State,
    (step s = .refused .unreachableState ↔ ¬ s.Representable) ∧
    (step s = .refused .reservedEventBits ↔
      s.Representable ∧ evKind s.presented.ev ≠ 0b01#2 ∧ evData s.presented.ev ≠ 0#8) ∧
    (step s = .refused .noEncoder ↔
      s.Representable ∧ s.presented.ev = 0x300#10 ∧ s.params.hasEncoder = false) ∧
    (step s = .refused .invalidMode ↔
      s.Representable ∧ s.presented.ev = 0x300#10 ∧ s.params.hasEncoder = true ∧ s.presented.ds.mode = 0b11#2) ∧
    (∀ r, step s = .refused r →
      r = .unreachableState ∨ r = .reservedEventBits ∨ r = .noEncoder ∨ r = .invalidMode)

/-- From a pair outside the representable set every event is refused, IDLE and RESET included (40_control_events.md
R103): by the step whatever word is presented, and by every instruction's meaning. -/
def Obligations.UnreachableStateRefusesEveryEvent : Prop :=
  ∀ s : State, ¬ s.Representable →
    step s = .refused .unreachableState ∧ ∀ i : Instr, exec i s = .refused .unreachableState

/-- Every representable state has a successor for every legal event (60_exceptions.md R214): every FEED word, IDLE,
RESET, and ENCODE with the encoder present and a mode on the port. -/
def Obligations.EveryLegalEventHasASuccessor : Prop :=
  ∀ (s : State) (i : Instr), s.Representable → decode s.decodeCtx s.presented.ev = .ok i →
    (i = .encode → s.params.hasEncoder = true ∧ s.presented.ds.mode ≠ 0b11#2) →
    ∃ t, step s = .next t ∧ t.Representable

/-- What a step leaves of the host's side: the parameters never change (00_scope.md R7: no configuration at run time,
10_state.md R32). That one event leaves the list (10_state.md R26 presents one per step; the list is log 1's) and that
`ds` becomes the sample presented with it (R29, R36 for ENCODE; for every step it is log 14's) are the model's choice. -/
def Obligations.StepFramesTheHostSide : Prop :=
  ∀ s t : State, step s = .next t →
    t.params = s.params ∧ t.inputs = s.inputs.tail ∧ t.ds = s.presented.ds

/-! ## Invariants -/

/-- Every step keeps the invariant: a representable pair (10_state.md R25), the buffer's list in canonical form, and
the header in the buffer while collecting (R24). -/
def Obligations.StepKeepsTheInvariant : Prop :=
  ∀ s t : State, s.Inv → step s = .next t → t.Inv

/-- The invariant holds at reset, for every setting of the parameters. -/
def Obligations.InvariantHoldsAtReset : Prop :=
  (State.reset).Inv ∧ ∀ p : Params, (State.resetWith p).Inv

/-- The buffer invariant (10_state.md R24), over every sequence of events from AWAIT1: while collecting with cursor c,
the buffer begins with the header and its bytes 0 to c-1 are, in order, the last c bytes fed since RESET. -/
def Obligations.BufferHoldsTheBytesFed : Prop :=
  ∀ (s t : State) (ins : List Input), s.state = .await1 → s.cursor = 0#4 → stateAfter s ins = some t →
    t.state = .collect →
      t.readBuf 0 = 0xBB#8 ∧ t.readBuf 1 = 0x51#8 ∧ 2 ≤ t.cursor.toNat ∧ t.cursor.toNat ≤ 14 ∧
      t.bytesHeld <:+ bytesFed ins

/-! ## FEED, row by row -/

/-- FEED.A1_HDR0 (41_feed.md R111): AWAIT2, nothing else written, no event. -/
def Obligations.FirstHeaderByteGoesToAwait2 : Prop :=
  ∀ s : State, s.state = .await1 → s.cursor = 0#4 →
    exec .feedA1Hdr0 s = .next { s with state := .await2, out := none }

/-- FEED.A1_NOISE (R112): nothing written, no event. -/
def Obligations.NoiseInAwait1IsDiscarded : Prop :=
  ∀ (s : State) (b : Byte), s.state = .await1 → s.cursor = 0#4 → b ≠ 0xBB#8 →
    exec (.feedA1Noise b) s = .next { s with out := none }

/-- FEED.A2_HDR1 (R113): buffer bytes 0 and 1 hold the header, cursor 2, COLLECT; bytes 2 to 14 keep what they held
(the spec allows clearing them too, log 10); no event. -/
def Obligations.HeaderCompleteStartsCollecting : Prop :=
  ∀ s : State, s.state = .await2 → s.cursor = 0#4 →
    ∃ t, exec .feedA2Hdr1 s = .next t ∧
      t.state = .collect ∧ t.cursor = 2#4 ∧ t.readBuf 0 = 0xBB#8 ∧ t.readBuf 1 = 0x51#8 ∧
      (∀ i : Nat, i ≠ 0 → i ≠ 1 → t.readBuf i = s.readBuf i) ∧
      t.out = none ∧ t.bufGen = s.bufGen ∧ t.draws = s.draws ∧ s.SameOutside t

/-- FEED.A2_REARM (R114): nothing written, no event. -/
def Obligations.RepeatedHeaderByteReArms : Prop :=
  ∀ s : State, s.state = .await2 → s.cursor = 0#4 →
    exec .feedA2Rearm s = .next { s with out := none }

/-- FEED.A2_NOISE (R115): AWAIT1, nothing else written, no event. -/
def Obligations.BrokenHeaderReturnsToAwait1 : Prop :=
  ∀ (s : State) (b : Byte), s.state = .await2 → s.cursor = 0#4 → b ≠ 0x51#8 → b ≠ 0xBB#8 →
    exec (.feedA2Noise b) s = .next { s with state := .await1, out := none }

/-- FEED.COL_DATA (R116): the byte, whatever its value, is stored at the cursor, the cursor advances, COLLECT stays,
every other buffer byte is as before; no event. -/
def Obligations.CollectedByteIsStoredAtTheCursor : Prop :=
  ∀ (s : State) (b : Byte), s.state = .collect → 2 ≤ s.cursor.toNat → s.cursor.toNat ≤ 13 →
    ∃ t, exec (.feedColData b) s = .next t ∧
      t.state = .collect ∧ t.cursor.toNat = s.cursor.toNat + 1 ∧ t.readBuf s.cursor.toNat = b ∧
      (∀ i : Nat, i ≠ s.cursor.toNat → t.readBuf i = s.readBuf i) ∧
      t.out = none ∧ t.bufGen = s.bufGen ∧ t.draws = s.draws ∧ s.SameOutside t

/-- FEED.COL_LAST_OK (R117): with the byte written at index 14 the checksum of bytes 2 to 13 equals it; the 15 bytes
and their snapshot are emitted, and the machine awaits the next frame. Two clauses are the model's choice (log 6), of
which R117 says nothing: that the snapshot's free target is the draw of the present count, and that the count advances
exactly where the `draw` policy draws one. -/
def Obligations.MatchingChecksumAcceptsTheFrame : Prop :=
  ∀ (s : State) (b : Byte), s.state = .collect → s.cursor = 14#4 →
    checksum (s.writeBuf 14 b).frame.toList 2 13 = b →
    ∃ t f, exec (.feedColLastOk b) s = .next t ∧
      (∀ i : Nat, (h : i < 15) → f[i] = if i = 14 then b else s.readBuf i) ∧
      t.out = some (.frameAccepted f
        (decodeSnapshot s.params.tgtHighPolicy (Config.freeTargetDraw s.draws) f)) ∧
      t.state = .await1 ∧ t.cursor = 0#4 ∧ t.readBuf 14 = b ∧
      (∀ i : Nat, i ≠ 14 → t.readBuf i = s.readBuf i) ∧
      t.bufGen = s.bufGen ∧
      (t.draws = if drawsTarget s.params.tgtHighPolicy (s.readBuf 5) then s.draws + 1 else s.draws) ∧
      s.SameOutside t

/-- FEED.COL_LAST_BAD (R118): the checksum does not equal the byte; the computed sum, the carried byte and the 15 raw
bytes are emitted, no snapshot, and the machine awaits the next frame. -/
def Obligations.ChecksumMismatchRejectsTheFrame : Prop :=
  ∀ (s : State) (b : Byte), s.state = .collect → s.cursor = 14#4 →
    checksum (s.writeBuf 14 b).frame.toList 2 13 ≠ b →
    ∃ t f, exec (.feedColLastBad b) s = .next t ∧
      (∀ i : Nat, (h : i < 15) → f[i] = if i = 14 then b else s.readBuf i) ∧
      t.out = some (.checksumMismatch (checksum (s.writeBuf 14 b).frame.toList 2 13) b f) ∧
      t.state = .await1 ∧ t.cursor = 0#4 ∧ t.readBuf 14 = b ∧
      (∀ i : Nat, i ≠ 14 → t.readBuf i = s.readBuf i) ∧
      t.bufGen = s.bufGen ∧ t.draws = s.draws ∧ s.SameOutside t

/-- Header bytes inside a frame are data (R119): while collecting, a FEED of any byte, the header bytes included, is
stored, and no header is recognized: the machine goes on collecting, or, on the fifteenth byte, awaits a first header
byte. -/
def Obligations.HeaderBytesInsideAFrameAreData : Prop :=
  ∀ (s : State) (b : Byte), s.Representable → s.state = .collect → s.presented.ev = eventWord 0b01#2 b →
    ∃ t, step s = .next t ∧ t.readBuf s.cursor.toNat = b ∧
      (∀ i : Nat, i ≠ s.cursor.toNat → t.readBuf i = s.readBuf i) ∧
      (s.cursor.toNat < 14 → t.state = .collect ∧ t.cursor.toNat = s.cursor.toNat + 1 ∧ t.out = none) ∧
      (s.cursor.toNat = 14 → t.state = .await1 ∧ t.cursor = 0#4 ∧ t.out ≠ none)

/-! ## Control events -/

/-- IDLE (40_control_events.md R100): in every representable state, also in the middle of a frame, nothing is written
and there is no event; an IDLE word with nonzero data is refused. -/
def Obligations.IdleChangesNothing : Prop :=
  (∀ s : State, s.Representable → exec .idle s = .next { s with out := none }) ∧
  (∀ s : State, s.Representable → evKind s.presented.ev = 0b00#2 → evData s.presented.ev ≠ 0#8 →
    step s = .refused .reservedEventBits)

/-- RESET (R102): AWAIT1, cursor 0, every buffer byte any byte, no event, also in the middle of a frame; a RESET word
with nonzero data is refused. That "any byte" is the byte of the next free contents is the model's choice (log 3), and
so is that RESET leaves the port, the events to come and the count of draws (log 4). -/
def Obligations.ResetReturnsToTheResetState : Prop :=
  (∀ s : State, s.Representable →
    ∃ t, exec .reset s = .next t ∧ t.state = .await1 ∧ t.cursor = 0#4 ∧ t.out = none ∧
      (∀ i : Nat, t.readBuf i = Config.freeBufByte (s.bufGen + 1) i) ∧
      t.draws = s.draws ∧ s.SameOutside t) ∧
  (∀ s : State, s.Representable → evKind s.presented.ev = 0b10#2 → evData s.presented.ev ≠ 0#8 →
    step s = .refused .reservedEventBits)

/-- Power-on reset and the RESET event reach the same registers (70_reset_and_hazards.md R220, R221): AWAIT1, cursor
0, a buffer of which nothing is known, and no output event; a partial frame is discarded without an event. -/
def Obligations.ResetEventAndPowerOnReachTheSameState : Prop :=
  ∀ (p : Params) (s : State), s.Representable →
    (State.resetWith p).state = .await1 ∧ (State.resetWith p).cursor = 0#4 ∧ (State.resetWith p).out = none ∧
    ∃ t, exec .reset s = .next t ∧ t.state = (State.resetWith p).state ∧ t.cursor = (State.resetWith p).cursor ∧
      t.out = (State.resetWith p).out ∧ t.buf = (State.resetWith p).buf

/-- ENCODE (R101, 44_command_encode.md R170): with the encoder present and a mode on the port, the command frame is
emitted, byte by byte as R170 writes it, and nothing of the decoder is written. An ENCODE word with nonzero data is
refused; so is ENCODE without the encoder, and with mode code 11, each checked in that order. -/
def Obligations.EncodeEmitsTheCommandFrame : Prop :=
  (∀ (s : State) (d : DesiredState), s.Representable → s.params.hasEncoder = true → s.ds = portOfDesired d →
    ∃ cmd : CmdFrame, exec .encode s = .next { s with out := some (.commandFrame cmd) } ∧
      cmd[0] = 0xBB#8 ∧ cmd[1] = 0x51#8 ∧
      cmd[2] = (if d.power then 0x80#8 else 0x00#8) ∧
      cmd[3] = (match d.mode with | .cold => 0x01#8 | .auto => 0x00#8 | .humidity => 0x02#8) |||
        (if d.fanHigh then 0x20#8 else 0x00#8) ||| 0x10#8 ∧
      cmd[4] = 0x00#8 ∧
      cmd[5] = (match d.mode with
        | .cold => 0x01#8
        | .auto => 0x00#8
        | .humidity => BitVec.ofNat 8 ((min (max d.target.toNat 30) 90 - 30) / 5 + 2)) ∧
      cmd[6] = 0x00#8 ∧ cmd[7] = 0x00#8 ∧ cmd[8] = 0x00#8 ∧
      cmd[9] = cmd[2] + cmd[3] + cmd[4] + cmd[5] + cmd[6] + cmd[7] + cmd[8]) ∧
  (∀ s : State, s.Representable → evKind s.presented.ev = 0b11#2 → evData s.presented.ev ≠ 0#8 →
    step s = .refused .reservedEventBits) ∧
  (∀ s : State, s.Representable → s.params.hasEncoder = false → exec .encode s = .refused .noEncoder) ∧
  (∀ s : State, s.Representable → s.params.hasEncoder = true → s.ds.mode = 0b11#2 →
    exec .encode s = .refused .invalidMode)

/-- Operand legality (44_command_encode.md R171): the codes 00, 01 and 10 are Auto, Cold and Humidity, and with each of
them every power, fan and target is a legal operand; code 11 is no mode and is refused. -/
def Obligations.EveryPortValueButModeElevenIsLegal : Prop :=
  ∀ (s : State) (power fan : Bool) (code : BitVec 2) (target : Byte), s.Representable →
    s.params.hasEncoder = true → s.ds = ⟨power, fan, code, target⟩ →
    (code = 0b00#2 → exec .encode s =
      .next { s with out := some (.commandFrame (commandFrame ⟨power, fan, .auto, target⟩)) }) ∧
    (code = 0b01#2 → exec .encode s =
      .next { s with out := some (.commandFrame (commandFrame ⟨power, fan, .cold, target⟩)) }) ∧
    (code = 0b10#2 → exec .encode s =
      .next { s with out := some (.commandFrame (commandFrame ⟨power, fan, .humidity, target⟩)) }) ∧
    (code = 0b11#2 → exec .encode s = .refused .invalidMode)

/-- Only FEED and RESET change the parser (41_feed.md R120): after a step on any other event the parser state, the
cursor and every buffer byte are as before, and so a partial frame waits through any number of IDLE and ENCODE
events. -/
def Obligations.OnlyFeedAndResetChangeTheParser : Prop :=
  (∀ s t : State, step s = .next t → s.presented.isFeed = false → s.presented.isReset = false →
    t.state = s.state ∧ t.cursor = s.cursor ∧ s.SameBuf t) ∧
  (∀ (s t : State) (ins : List Input), (∀ i ∈ ins, i.isIdle = true ∨ i.isEncode = true) →
    stateAfter s ins = some t →
    t.state = s.state ∧ t.cursor = s.cursor ∧ s.SameBuf t)

/-! ## Output -/

/-- Where output events come from (10_state.md R27, R28): an accepted frame only from the FEED that completes a frame
whose checksum matches, a mismatch only from one whose checksum does not, a command frame only from ENCODE, and every
other step leaves no event. -/
def Obligations.OutputEventsComeOnlyFromTheirRows : Prop :=
  ∀ s t : State, step s = .next t →
    ((∃ f snap, t.out = some (.frameAccepted f snap)) ↔
      s.presented.isFeed = true ∧ s.state = .collect ∧ s.cursor = 14#4 ∧
        frameChecksum s.frame = evData s.presented.ev) ∧
    ((∃ c e raw, t.out = some (.checksumMismatch c e raw)) ↔
      s.presented.isFeed = true ∧ s.state = .collect ∧ s.cursor = 14#4 ∧
        frameChecksum s.frame ≠ evData s.presented.ev) ∧
    ((∃ cmd, t.out = some (.commandFrame cmd)) ↔ s.presented.ev = 0x300#10)

/-- Publication (43_snapshot_decode.md R159): in the accepting step every snapshot field is on its port together with
`frm_valid = 1`, and the mode with `snap_mode_valid = 1`, or `snap_mode_valid = 0` and no mode value when it is none;
the other strobes are 0. -/
def Obligations.AcceptedFramePublishesItsSnapshot : Prop :=
  ∀ (s t : State) (f : Frame) (snap : Snapshot), step s = .next t → t.out = some (.frameAccepted f snap) →
    t.ports.frmValid = true ∧ t.ports.errValid = false ∧ t.ports.cmdValid = false ∧
    t.ports.frmData = some f ∧ t.ports.snapPower = some snap.power ∧ t.ports.snapFanHigh = some snap.fanHigh ∧
    t.ports.snapCompressor = some snap.compressor ∧ t.ports.snapTankFull = some snap.tankFull ∧
    t.ports.snapHumidity = some snap.humidity ∧ t.ports.snapTemperature = some snap.temperature ∧
    t.ports.snapTarget = some snap.target ∧ 30 ≤ snap.target.toNat ∧ snap.target.toNat ≤ 90 ∧
    (∀ m, snap.mode = some m → t.ports.snapModeValid = some true ∧ t.ports.snapMode = some (modeCode m)) ∧
    (snap.mode = none → t.ports.snapModeValid = some false ∧ t.ports.snapMode = none)

/-- A run that contains a refusal has no observation (70_reset_and_hazards.md R223): if some event of the run is
refused in the state the events before it lead to, the whole run observes nothing, whatever follows. -/
def Obligations.RefusedRunHasNoObservation : Prop :=
  ∀ (p : Params) (before after : List Input) (i : Input) (s : State) (r : Refusal),
    stateAfter (State.resetWith p) before = some s → step (s.withInputs [i]) = .refused r →
    observation p (before ++ i :: after) = none

/-! ## Checksum -/

/-- The checksum is the unsigned sum of the bytes from `lo` to `hi`, both included, modulo 256 (42_checksum.md R140). -/
def Obligations.ChecksumIsTheModularSum : Prop :=
  ∀ (bytes : List Byte) (lo hi : Nat), lo ≤ hi → hi < bytes.length →
    (checksum bytes lo hi).toNat = (∑ i ∈ Finset.Icc lo hi, (bytes.getD i 0#8).toNat) % 256

/-- Order independence (R143): two byte sequences whose ranges are permutations of each other have the same checksum,
and its value is at most 255. -/
def Obligations.ChecksumIsOrderIndependent : Prop :=
  ∀ (a b : List Byte) (lo hi : Nat),
    ((a.drop lo).take (hi + 1 - lo)).Perm ((b.drop lo).take (hi + 1 - lo)) →
    checksum a lo hi = checksum b lo hi ∧ (checksum a lo hi).toNat ≤ 255

/-- What the checksum detects (R144): a frame that differs from a valid one in exactly one of positions 2 to 14 is not
valid; one whose payload is reordered, or changed at two payload positions by amounts that cancel, still is. -/
def Obligations.ChecksumDetectsSingleByteErrorsOnly : Prop :=
  (∀ (f g : Frame) (k : Nat), (hk : k < 15) → 2 ≤ k → frameValid f = true → f[k] ≠ g[k] →
    (∀ i : Nat, (hi : i < 15) → i ≠ k → f[i] = g[i]) → frameValid g = false) ∧
  (∀ f g : Frame, frameValid f = true → f[14] = g[14] →
    ((f.toList.drop 2).take 12).Perm ((g.toList.drop 2).take 12) → frameValid g = true) ∧
  (∀ (f : Frame) (j k : Nat) (d : Byte), (hj : j < 15) → (hk : k < 15) → 2 ≤ j → j ≤ 13 → 2 ≤ k → k ≤ 13 → j ≠ k →
    frameValid f = true → frameValid ((f.set j (f[j] + d)).set k (f[k] - d)) = true)

/-! ## Snapshot -/

/-- The snapshot fields by their masks and offsets (43_snapshot_decode.md R151, R152, R153, R156, R157). -/
def Obligations.SnapshotFieldsAreTheMaskedBytes : Prop :=
  ∀ (pol : TgtHighPolicy) (d : Fin 61) (f : Frame),
    ((decodeSnapshot pol d f).power = true ↔ f[2] &&& 0x80#8 ≠ 0#8) ∧
    ((decodeSnapshot pol d f).fanHigh = true ↔ f[3] &&& 0x20#8 ≠ 0#8) ∧
    (decodeSnapshot pol d f).humidity = f[4] ∧
    ((decodeSnapshot pol d f).compressor = true ↔ f[7] &&& 0x80#8 ≠ 0#8) ∧
    ((decodeSnapshot pol d f).tankFull = true ↔ f[9] &&& 0x04#8 ≠ 0#8)

/-- The mode by bits 0x03 of byte 3 (R155): 00 Auto, 01 Cold, 10 Humidity, 11 none. -/
def Obligations.SnapshotModeIsTheCodeOfByteThree : Prop :=
  ∀ (pol : TgtHighPolicy) (d : Fin 61) (f : Frame),
    (f[3] &&& 0x03#8 = 0x00#8 → (decodeSnapshot pol d f).mode = some .auto) ∧
    (f[3] &&& 0x03#8 = 0x01#8 → (decodeSnapshot pol d f).mode = some .cold) ∧
    (f[3] &&& 0x03#8 = 0x02#8 → (decodeSnapshot pol d f).mode = some .humidity) ∧
    (f[3] &&& 0x03#8 = 0x03#8 → (decodeSnapshot pol d f).mode = none)

/-- The decoded target (R154): 50 for codes 0 and 1, the inverse of the encoder's formula for 2 to 14, and for 15 to
255 90 under `clamp`, and under `draw` a value in 30..90, which may be any of them. -/
def Obligations.SnapshotTargetIsTheTableOfByteFive : Prop :=
  ∀ (pol : TgtHighPolicy) (d : Fin 61) (f : Frame),
    (f[5].toNat < 2 → (decodeSnapshot pol d f).target.toNat = 50) ∧
    (2 ≤ f[5].toNat → f[5].toNat ≤ 14 →
      (decodeSnapshot pol d f).target.toNat = 30 + 5 * (f[5].toNat - 2)) ∧
    (15 ≤ f[5].toNat → pol = .clamp → (decodeSnapshot pol d f).target.toNat = 90) ∧
    (15 ≤ f[5].toNat → pol = .draw →
      30 ≤ (decodeSnapshot pol d f).target.toNat ∧ (decodeSnapshot pol d f).target.toNat ≤ 90 ∧
      ∀ v : Nat, 30 ≤ v → v ≤ 90 → ∃ d' : Fin 61, (decodeSnapshot pol d' f).target.toNat = v)

/-- The temperature (R158): the port carries byte 10, and a consumer reads it as 0..255, or with `TEMP_SIGNED = true`
as two's complement, -128..127; the port bits are the same under both settings. -/
def Obligations.TemperatureIsByteTenReadAsTheConsumerReadsIt : Prop :=
  ∀ (pol : TgtHighPolicy) (d : Fin 61) (f : Frame) (p : Params),
    (decodeSnapshot pol d f).temperature = f[10] ∧
    (p.tempSigned = false → temperatureReading p (decodeSnapshot pol d f) = (f[10].toNat : Int)) ∧
    (p.tempSigned = true → temperatureReading p (decodeSnapshot pol d f) =
      if f[10].toNat < 128 then (f[10].toNat : Int) else (f[10].toNat : Int) - 256)

/-- Inbound bits the decoder does not read (30_encoding.md R67): two frames that agree on the bits read decode alike,
whatever the others hold. -/
def Obligations.UnreadInboundBitsDoNotMatter : Prop :=
  ∀ (pol : TgtHighPolicy) (d : Fin 61) (f g : Frame),
    f[2] &&& 0x80#8 = g[2] &&& 0x80#8 → f[3] &&& 0x23#8 = g[3] &&& 0x23#8 → f[4] = g[4] → f[5] = g[5] →
    f[7] &&& 0x80#8 = g[7] &&& 0x80#8 → f[9] &&& 0x04#8 = g[9] &&& 0x04#8 → f[10] = g[10] →
    decodeSnapshot pol d f = decodeSnapshot pol d g

/-! ## Command encoder -/

/-- The command checksum never wraps (42_checksum.md R146): byte 9 is the plain sum of bytes 2, 3 and 5, because bytes
4, 6, 7 and 8 are 0x00, and its largest value is 0xC0. -/
def Obligations.CommandChecksumNeverWraps : Prop :=
  (∀ d : DesiredState,
    (commandFrame d)[9].toNat =
      (commandFrame d)[2].toNat + (commandFrame d)[3].toNat + (commandFrame d)[5].toNat ∧
    (commandFrame d)[4] = 0x00#8 ∧ (commandFrame d)[6] = 0x00#8 ∧ (commandFrame d)[7] = 0x00#8 ∧
    (commandFrame d)[8] = 0x00#8 ∧ (commandFrame d)[9].toNat ≤ 0xC0) ∧
  ∃ d : DesiredState, (commandFrame d)[9].toNat = 0xC0

/-- Reserved command bits (30_encoding.md R68): bits 6..0 of byte 2 are 0; of byte 3 bits 7, 6, 3, 2 are 0 and bit 4
is 1; bytes 4, 6, 7 and 8 are 0x00. -/
def Obligations.ReservedCommandBitsAreFixed : Prop :=
  ∀ d : DesiredState,
    (commandFrame d)[2] &&& 0x7F#8 = 0#8 ∧ (commandFrame d)[3] &&& 0xDC#8 = 0x10#8 ∧
    (commandFrame d)[4] = 0x00#8 ∧ (commandFrame d)[6] = 0x00#8 ∧ (commandFrame d)[7] = 0x00#8 ∧
    (commandFrame d)[8] = 0x00#8

/-- Target codes as the encoder produces them (30_encoding.md R71): in Humidity mode a target's code is 2 to 14, and
it stands for the multiple of 5 at or next below the clamped target; 0 in Auto and 1 in Cold, whatever the target. -/
def Obligations.EncodedTargetRoundsDownAfterClamping : Prop :=
  (∀ t : Byte, 2 ≤ (targetCode .humidity t).toNat ∧ (targetCode .humidity t).toNat ≤ 14 ∧
    (t.toNat < 30 → (targetCode .humidity t).toNat = 2) ∧
    (30 ≤ t.toNat → t.toNat ≤ 90 →
      30 + 5 * ((targetCode .humidity t).toNat - 2) ≤ t.toNat ∧
      t.toNat < 30 + 5 * ((targetCode .humidity t).toNat - 1)) ∧
    (90 < t.toNat → (targetCode .humidity t).toNat = 14)) ∧
  (∀ t : Byte, targetCode .auto t = 0#8) ∧ (∀ t : Byte, targetCode .cold t = 1#8)

/-- Defaults of absent inputs (44_command_encode.md R177): power off, fan low, mode Auto, target 50, each for an
unwired field alone, and with all of them the frame of the rule. -/
def Obligations.UnwiredInputsDriveTheDefaults : Prop :=
  (∀ (power fan : Bool) (m : Mode) (t : Byte),
    portOfWired none (some fan) (some m) (some t) = portOfDesired ⟨false, fan, m, t⟩ ∧
    portOfWired (some power) none (some m) (some t) = portOfDesired ⟨power, false, m, t⟩ ∧
    portOfWired (some power) (some fan) none (some t) = portOfDesired ⟨power, fan, .auto, t⟩ ∧
    portOfWired (some power) (some fan) (some m) none = portOfDesired ⟨power, fan, m, 50#8⟩) ∧
  (∀ s : State, s.Representable → s.params.hasEncoder = true → s.ds = portOfWired none none none none →
    exec .encode s = .next { s with out := some (.commandFrame
      #v[0xBB#8, 0x51#8, 0x00#8, 0x10#8, 0x00#8, 0x00#8, 0x00#8, 0x00#8, 0x00#8, 0x10#8]) })

/-- The round trip as far as it holds (44_command_encode.md R179), under the default `clamp` policy: the encoder's
bytes 2, 3 and 5 decode to the same power, fan and mode, and in Humidity mode to the same target; and the bytes 2 to 5
themselves agree exactly on the frames the rule lists. -/
def Obligations.RoundTripOverTheControllableFields : Prop :=
  ∀ (d₁ d₂ : Fin 61) (f g : Frame) (m : Mode) (t : Byte), frameValid f = true →
    (decodeSnapshot .clamp d₁ f).mode = some m →
    t.toNat = (decodeSnapshot .clamp d₁ f).target.toNat →
    let cmd := commandFrame ⟨(decodeSnapshot .clamp d₁ f).power, (decodeSnapshot .clamp d₁ f).fanHigh, m, t⟩
    (g[2] = cmd[2] → g[3] = cmd[3] → g[5] = cmd[5] →
      (decodeSnapshot .clamp d₂ g).power = (decodeSnapshot .clamp d₁ f).power ∧
      (decodeSnapshot .clamp d₂ g).fanHigh = (decodeSnapshot .clamp d₁ f).fanHigh ∧
      (decodeSnapshot .clamp d₂ g).mode = some m ∧
      (m = .humidity → (decodeSnapshot .clamp d₂ g).target = (decodeSnapshot .clamp d₁ f).target)) ∧
    ((f[2] = cmd[2] ∧ f[3] = cmd[3] ∧ f[4] = cmd[4] ∧ f[5] = cmd[5]) ↔
      (f[2] = 0x00#8 ∨ f[2] = 0x80#8) ∧
      (f[3] = 0x10#8 ∨ f[3] = 0x11#8 ∨ f[3] = 0x12#8 ∨ f[3] = 0x30#8 ∨ f[3] = 0x31#8 ∨ f[3] = 0x32#8) ∧
      f[4] = 0x00#8 ∧
      (m = .auto → f[5] = 0#8) ∧ (m = .cold → f[5] = 1#8) ∧
      (m = .humidity → 2 ≤ f[5].toNat ∧ f[5].toNat ≤ 14))

/-! ## Whole-machine rules -/

/-- Frame reception, end to end (41_feed.md R111, R113, R116, R117, R118): from AWAIT1, feeding the header, any 12
payload bytes and any last byte emits exactly one event, in the fifteenth step: the frame with its snapshot if the last
byte is the payload's sum, else the mismatch with both checksums and the raw bytes; and the machine awaits the next
frame. Which free target the snapshot draws under the `draw` policy is the model's choice (log 6). -/
def Obligations.FifteenFedBytesGiveExactlyOneFrameEvent : Prop :=
  ∀ (s : State) (payload : Vector Byte 12) (k : Byte), s.state = .await1 → s.cursor = 0#4 →
    ∃ (f : Frame) (t : State), f.toList = frameBytes payload k ∧
      observeFrom s (feeds (frameBytes payload k)) = some [(15,
        if k = payloadSum payload then
          .frameAccepted f (decodeSnapshot s.params.tgtHighPolicy (Config.freeTargetDraw s.draws) f)
        else .checksumMismatch (payloadSum payload) k f)] ∧
      stateAfter s (feeds (frameBytes payload k)) = some t ∧ t.state = .await1 ∧ t.cursor = 0#4

/-- Frame extent (41_feed.md R121): leaving IDLE and ENCODE out of the count, a frame event describes exactly the last
15 bytes fed, all after the most recent RESET, beginning with the header; so none comes before the fifteenth FEED. -/
def Obligations.FrameEventDescribesTheLastFifteenBytesFed : Prop :=
  ∀ (s t : State) (ins : List Input) (i : Input), s.state = .await1 → s.cursor = 0#4 →
    stateAfter s (ins ++ [i]) = some t →
    (∀ f snap, t.out = some (.frameAccepted f snap) →
      f.toList <:+ bytesFed (ins ++ [i]) ∧ f[0] = 0xBB#8 ∧ f[1] = 0x51#8) ∧
    (∀ c e raw, t.out = some (.checksumMismatch c e raw) →
      raw.toList <:+ bytesFed (ins ++ [i]) ∧ raw[0] = 0xBB#8 ∧ raw[1] = 0x51#8) ∧
    ((bytesFed (ins ++ [i])).length < 15 → ∀ e, t.out = some e → e.isFrameEvent = false)

/-- Batch independence (20_memory.md R52): IDLE events may be left out, or put in, anywhere without changing any output
event or the order of the events. -/
def Obligations.IdleEventsDoNotChangeTheOutputs : Prop :=
  ∀ (s : State) (ins : List Input), s.Representable →
    outputsFrom s ins = outputsFrom s (ins.filter fun i => ! i.isIdle)

/-- The encoder is independent of the decoder (44_command_encode.md R178, 70_reset_and_hazards.md R229): in a run
without a refusal, leaving every ENCODE out leaves exactly the frame events, unchanged and in order. -/
def Obligations.EncodeEventsDoNotChangeTheFrameEvents : Prop :=
  ∀ (s : State) (ins : List Input) (es : List OutputEvent), outputsFrom s ins = some es →
    outputsFrom s (ins.filter fun i => ! i.isEncode) = some (es.filter fun e => e.isFrameEvent)

/-- No byte of the buffer that has not been written since the last header completed is ever observed (10_state.md R23,
R24): two states that agree on the parser state, the cursor, the parameters, the draws and the buffer bytes below the
cursor have the same observation on every sequence of events, whatever the rest of the buffer holds. -/
def Obligations.UnwrittenBufferBytesAreNeverObserved : Prop :=
  ∀ (s t : State) (ins : List Input), s.state = t.state → s.cursor = t.cursor → s.params = t.params →
    s.draws = t.draws → (∀ i : Nat, i < s.cursor.toNat → s.readBuf i = t.readBuf i) →
    observeFrom s ins = observeFrom t ins

/-- Re-arming (41_feed.md R111, R113, R114): from AWAIT1 any run of 0xBB bytes, of any length, followed by 0x51
synchronizes, without an event. -/
def Obligations.AnyRunOfFirstHeaderBytesSynchronizes : Prop :=
  ∀ (s : State) (n : Nat), s.state = .await1 → s.cursor = 0#4 →
    observeFrom s (feeds (List.replicate (n + 1) 0xBB#8 ++ [0x51#8])) = some [] ∧
    ∃ t, stateAfter s (feeds (List.replicate (n + 1) 0xBB#8 ++ [0x51#8])) = some t ∧
      t.state = .collect ∧ t.cursor = 2#4 ∧ t.bytesHeld = [0xBB#8, 0x51#8]

/-- False synchronization (70_reset_and_hazards.md R225): from AWAIT1 or AWAIT2 the byte pair 0xBB 0x51 starts a frame,
wherever it comes from. -/
def Obligations.AnyHeaderPairStartsAFrame : Prop :=
  ∀ s : State, s.Representable → s.state = .await1 ∨ s.state = .await2 →
    ∃ t, stateAfter s (feeds [0xBB#8, 0x51#8]) = some t ∧ t.state = .collect ∧ t.cursor = 2#4 ∧
      t.readBuf 0 = 0xBB#8 ∧ t.readBuf 1 = 0x51#8

/-- Independent instances (60_exceptions.md R211): a step of one instance leaves every other as it was, and what it
does depends on that instance alone. A system has `N_INSTANCES` instances, at least 1 (00_scope.md R7), and a step keeps
their number. The list form of a system is the model's choice (log 13). -/
def Obligations.InstancesShareNothing : Prop :=
  (∀ (n : InstanceCount) (p : Params), (System.reset n p).length = n.val ∧ (System.reset n p).wf ∧
    ∀ (k : Nat) (s : State), (System.reset n p)[k]? = some s → s = State.resetWith p) ∧
  (∀ (sys sys' : System) (k : Nat), System.stepAt sys k = .next sys' →
    sys'.length = sys.length ∧ ∀ j : Nat, j ≠ k → sys'[j]? = sys[j]?) ∧
  (∀ (sysA sysB : System) (k : Nat) (s t : State), sysA[k]? = some s → sysB[k]? = some s → step s = .next t →
    ∃ sysA' sysB', System.stepAt sysA k = .next sysA' ∧ System.stepAt sysB k = .next sysB' ∧
      sysA'[k]? = some t ∧ sysB'[k]? = some t)

/-- The signals of the error and command ports, and the quiet step (10_state.md R27, R28, R36): the step of a rejected
frame drives `err_valid` with the computed sum, the byte fed and the 15 raw bytes; the ENCODE step drives `cmd_valid`
with its command frame; a step without an output event drives no strobe; and a data signal has a value only in the step
whose strobe is 1. -/
def Obligations.StrobesAndDataOfEveryStep : Prop :=
  ∀ s t : State, step s = .next t →
    (s.presented.isFeed = true → s.state = .collect → s.cursor = 14#4 →
      frameChecksum s.frame ≠ evData s.presented.ev →
      t.ports.errValid = true ∧ t.ports.frmValid = false ∧ t.ports.cmdValid = false ∧
      t.ports.errComputed = some (frameChecksum s.frame) ∧ t.ports.errExpected = some (evData s.presented.ev) ∧
      ∃ raw : Frame, t.ports.errRaw = some raw ∧
        ∀ i : Nat, (h : i < 15) → raw[i] = if i = 14 then evData s.presented.ev else s.readBuf i) ∧
    (∀ c e raw, t.out = some (.checksumMismatch c e raw) →
      t.ports.errValid = true ∧ t.ports.errComputed = some c ∧ t.ports.errExpected = some e ∧
      t.ports.errRaw = some raw) ∧
    (s.presented.ev = 0x300#10 →
      t.ports.cmdValid = true ∧ t.ports.frmValid = false ∧ t.ports.errValid = false ∧
      ∃ cmd, t.out = some (.commandFrame cmd) ∧ t.ports.cmdData = some cmd) ∧
    (t.out = none → t.ports.frmValid = false ∧ t.ports.errValid = false ∧ t.ports.cmdValid = false) ∧
    (t.ports.frmValid = false → t.ports.frmData = none ∧ t.ports.snapPower = none ∧ t.ports.snapFanHigh = none ∧
      t.ports.snapCompressor = none ∧ t.ports.snapTankFull = none ∧ t.ports.snapMode = none ∧
      t.ports.snapModeValid = none ∧ t.ports.snapHumidity = none ∧ t.ports.snapTemperature = none ∧
      t.ports.snapTarget = none) ∧
    (t.ports.errValid = false →
      t.ports.errComputed = none ∧ t.ports.errExpected = none ∧ t.ports.errRaw = none) ∧
    (t.ports.cmdValid = false → t.ports.cmdData = none)
end

