-- ==== Sys2Proof/Laws/State.lean ====
section
/-! SUPPORT. One lemma per field per state update, so that no later proof unfolds a record update. -/

namespace Sys2Proof.Machine

variable (s : State)

@[simp] theorem State.setState_state (p : ParserState) : (s.setState p).state = p := rfl
@[simp] theorem State.setState_cursor (p : ParserState) : (s.setState p).cursor = s.cursor := rfl
@[simp] theorem State.setState_buf (p : ParserState) : (s.setState p).buf = s.buf := rfl
@[simp] theorem State.setState_bufGen (p : ParserState) : (s.setState p).bufGen = s.bufGen := rfl
@[simp] theorem State.setState_inputs (p : ParserState) : (s.setState p).inputs = s.inputs := rfl
@[simp] theorem State.setState_ds (p : ParserState) : (s.setState p).ds = s.ds := rfl
@[simp] theorem State.setState_out (p : ParserState) : (s.setState p).out = s.out := rfl
@[simp] theorem State.setState_draws (p : ParserState) : (s.setState p).draws = s.draws := rfl
@[simp] theorem State.setState_params (p : ParserState) : (s.setState p).params = s.params := rfl

@[simp] theorem State.setCursor_state (v : BitVec 4) : (s.setCursor v).state = s.state := rfl
@[simp] theorem State.setCursor_cursor (v : BitVec 4) : (s.setCursor v).cursor = v := rfl
@[simp] theorem State.setCursor_buf (v : BitVec 4) : (s.setCursor v).buf = s.buf := rfl
@[simp] theorem State.setCursor_bufGen (v : BitVec 4) : (s.setCursor v).bufGen = s.bufGen := rfl
@[simp] theorem State.setCursor_inputs (v : BitVec 4) : (s.setCursor v).inputs = s.inputs := rfl
@[simp] theorem State.setCursor_ds (v : BitVec 4) : (s.setCursor v).ds = s.ds := rfl
@[simp] theorem State.setCursor_out (v : BitVec 4) : (s.setCursor v).out = s.out := rfl
@[simp] theorem State.setCursor_draws (v : BitVec 4) : (s.setCursor v).draws = s.draws := rfl
@[simp] theorem State.setCursor_params (v : BitVec 4) : (s.setCursor v).params = s.params := rfl

@[simp] theorem State.output_state (e : Option OutputEvent) : (s.output e).state = s.state := rfl
@[simp] theorem State.output_cursor (e : Option OutputEvent) : (s.output e).cursor = s.cursor := rfl
@[simp] theorem State.output_buf (e : Option OutputEvent) : (s.output e).buf = s.buf := rfl
@[simp] theorem State.output_bufGen (e : Option OutputEvent) : (s.output e).bufGen = s.bufGen := rfl
@[simp] theorem State.output_inputs (e : Option OutputEvent) : (s.output e).inputs = s.inputs := rfl
@[simp] theorem State.output_ds (e : Option OutputEvent) : (s.output e).ds = s.ds := rfl
@[simp] theorem State.output_out (e : Option OutputEvent) : (s.output e).out = e := rfl
@[simp] theorem State.output_draws (e : Option OutputEvent) : (s.output e).draws = s.draws := rfl
@[simp] theorem State.output_params (e : Option OutputEvent) : (s.output e).params = s.params := rfl

@[simp] theorem State.forgetBuf_state : (s.forgetBuf).state = s.state := rfl
@[simp] theorem State.forgetBuf_cursor : (s.forgetBuf).cursor = s.cursor := rfl
@[simp] theorem State.forgetBuf_buf : (s.forgetBuf).buf = [] := rfl
@[simp] theorem State.forgetBuf_bufGen : (s.forgetBuf).bufGen = s.bufGen + 1 := rfl
@[simp] theorem State.forgetBuf_inputs : (s.forgetBuf).inputs = s.inputs := rfl
@[simp] theorem State.forgetBuf_ds : (s.forgetBuf).ds = s.ds := rfl
@[simp] theorem State.forgetBuf_out : (s.forgetBuf).out = s.out := rfl
@[simp] theorem State.forgetBuf_draws : (s.forgetBuf).draws = s.draws := rfl
@[simp] theorem State.forgetBuf_params : (s.forgetBuf).params = s.params := rfl

@[simp] theorem State.awaitNextFrame_state : (s.awaitNextFrame).state = .await1 := rfl
@[simp] theorem State.awaitNextFrame_cursor : (s.awaitNextFrame).cursor = 0#4 := rfl
@[simp] theorem State.awaitNextFrame_buf : (s.awaitNextFrame).buf = s.buf := rfl
@[simp] theorem State.awaitNextFrame_bufGen : (s.awaitNextFrame).bufGen = s.bufGen := rfl
@[simp] theorem State.awaitNextFrame_inputs : (s.awaitNextFrame).inputs = s.inputs := rfl
@[simp] theorem State.awaitNextFrame_ds : (s.awaitNextFrame).ds = s.ds := rfl
@[simp] theorem State.awaitNextFrame_out : (s.awaitNextFrame).out = s.out := rfl
@[simp] theorem State.awaitNextFrame_draws : (s.awaitNextFrame).draws = s.draws := rfl
@[simp] theorem State.awaitNextFrame_params : (s.awaitNextFrame).params = s.params := rfl

@[simp] theorem State.takeInput_state : (s.takeInput).state = s.state := rfl
@[simp] theorem State.takeInput_cursor : (s.takeInput).cursor = s.cursor := rfl
@[simp] theorem State.takeInput_buf : (s.takeInput).buf = s.buf := rfl
@[simp] theorem State.takeInput_bufGen : (s.takeInput).bufGen = s.bufGen := rfl
@[simp] theorem State.takeInput_inputs : (s.takeInput).inputs = s.inputs.tail := rfl
@[simp] theorem State.takeInput_ds : (s.takeInput).ds = s.presented.ds := rfl
@[simp] theorem State.takeInput_out : (s.takeInput).out = s.out := rfl
@[simp] theorem State.takeInput_draws : (s.takeInput).draws = s.draws := rfl
@[simp] theorem State.takeInput_params : (s.takeInput).params = s.params := rfl

@[simp] theorem State.withInputs_state (l : List Input) : (s.withInputs l).state = s.state := rfl
@[simp] theorem State.withInputs_cursor (l : List Input) : (s.withInputs l).cursor = s.cursor := rfl
@[simp] theorem State.withInputs_buf (l : List Input) : (s.withInputs l).buf = s.buf := rfl
@[simp] theorem State.withInputs_bufGen (l : List Input) : (s.withInputs l).bufGen = s.bufGen := rfl
@[simp] theorem State.withInputs_inputs (l : List Input) : (s.withInputs l).inputs = l := rfl
@[simp] theorem State.withInputs_ds (l : List Input) : (s.withInputs l).ds = s.ds := rfl
@[simp] theorem State.withInputs_out (l : List Input) : (s.withInputs l).out = s.out := rfl
@[simp] theorem State.withInputs_draws (l : List Input) : (s.withInputs l).draws = s.draws := rfl
@[simp] theorem State.withInputs_params (l : List Input) : (s.withInputs l).params = s.params := rfl

@[simp] theorem State.writeBuf_state (i : Nat) (v : Byte) : (s.writeBuf i v).state = s.state := by unfold State.writeBuf; split <;> rfl
@[simp] theorem State.writeBuf_cursor (i : Nat) (v : Byte) : (s.writeBuf i v).cursor = s.cursor := by unfold State.writeBuf; split <;> rfl
@[simp] theorem State.writeBuf_bufGen (i : Nat) (v : Byte) : (s.writeBuf i v).bufGen = s.bufGen := by unfold State.writeBuf; split <;> rfl
@[simp] theorem State.writeBuf_inputs (i : Nat) (v : Byte) : (s.writeBuf i v).inputs = s.inputs := by unfold State.writeBuf; split <;> rfl
@[simp] theorem State.writeBuf_ds (i : Nat) (v : Byte) : (s.writeBuf i v).ds = s.ds := by unfold State.writeBuf; split <;> rfl
@[simp] theorem State.writeBuf_out (i : Nat) (v : Byte) : (s.writeBuf i v).out = s.out := by unfold State.writeBuf; split <;> rfl
@[simp] theorem State.writeBuf_draws (i : Nat) (v : Byte) : (s.writeBuf i v).draws = s.draws := by unfold State.writeBuf; split <;> rfl
@[simp] theorem State.writeBuf_params (i : Nat) (v : Byte) : (s.writeBuf i v).params = s.params := by unfold State.writeBuf; split <;> rfl

@[simp] theorem State.completeFrame_state (b : Byte) : (s.completeFrame b).state = s.state := by simp [State.completeFrame]
@[simp] theorem State.completeFrame_cursor (b : Byte) : (s.completeFrame b).cursor = 15#4 := rfl
@[simp] theorem State.completeFrame_bufGen (b : Byte) : (s.completeFrame b).bufGen = s.bufGen := by simp [State.completeFrame]
@[simp] theorem State.completeFrame_inputs (b : Byte) : (s.completeFrame b).inputs = s.inputs := by simp [State.completeFrame]
@[simp] theorem State.completeFrame_ds (b : Byte) : (s.completeFrame b).ds = s.ds := by simp [State.completeFrame]
@[simp] theorem State.completeFrame_out (b : Byte) : (s.completeFrame b).out = s.out := by simp [State.completeFrame]
@[simp] theorem State.completeFrame_draws (b : Byte) : (s.completeFrame b).draws = s.draws := by simp [State.completeFrame]
@[simp] theorem State.completeFrame_params (b : Byte) : (s.completeFrame b).params = s.params := by simp [State.completeFrame]

@[simp] theorem State.noteDraw_state (f : Frame) : (s.noteDraw f).state = s.state := by unfold State.noteDraw; split <;> rfl
@[simp] theorem State.noteDraw_cursor (f : Frame) : (s.noteDraw f).cursor = s.cursor := by unfold State.noteDraw; split <;> rfl
@[simp] theorem State.noteDraw_buf (f : Frame) : (s.noteDraw f).buf = s.buf := by unfold State.noteDraw; split <;> rfl
@[simp] theorem State.noteDraw_bufGen (f : Frame) : (s.noteDraw f).bufGen = s.bufGen := by unfold State.noteDraw; split <;> rfl
@[simp] theorem State.noteDraw_inputs (f : Frame) : (s.noteDraw f).inputs = s.inputs := by unfold State.noteDraw; split <;> rfl
@[simp] theorem State.noteDraw_ds (f : Frame) : (s.noteDraw f).ds = s.ds := by unfold State.noteDraw; split <;> rfl
@[simp] theorem State.noteDraw_out (f : Frame) : (s.noteDraw f).out = s.out := by unfold State.noteDraw; split <;> rfl
@[simp] theorem State.noteDraw_params (f : Frame) : (s.noteDraw f).params = s.params := by unfold State.noteDraw; split <;> rfl

@[simp] theorem State.withInputs_withInputs (l l' : List Input) :
    (s.withInputs l).withInputs l' = s.withInputs l' := rfl

@[simp] theorem State.withInputs_presented (i : Input) (l : List Input) :
    (s.withInputs (i :: l)).presented = i := rfl

/-- A write within the buffer lists the byte. -/
theorem State.writeBuf_buf {i : Nat} (h : i < Config.FRAME_LEN) (v : Byte) :
    (s.writeBuf i v).buf = Memory.insert s.buf i v := by
  simp [State.writeBuf, h]

/-- A write beyond the 15th position changes nothing (10_state.md R25, the bounds guard). -/
theorem State.writeBuf_out_of_bounds {i : Nat} (h : ¬ i < Config.FRAME_LEN) (v : Byte) :
    s.writeBuf i v = s := by
  simp [State.writeBuf, h]

end Sys2Proof.Machine
end

