-- ==== Sys2Proof/Laws/Memory.lean ====
section
/-! SUPPORT. The frame buffer: read after write, canonical form, and what each register operation leaves of it. -/

namespace Sys2Proof.Machine

@[simp] theorem Memory.lookup_nil (a : Nat) : Memory.lookup [] a = none := rfl

theorem Memory.lookup_insert_same (m : Memory) (a : Nat) (v : Byte) :
    Memory.lookup (Memory.insert m a v) a = some v := by
  induction m with
  | nil => simp [Memory.insert, Memory.lookup]
  | cons p rest ih =>
    obtain ⟨x, w⟩ := p
    simp only [Memory.insert]
    split
    · simp [Memory.lookup]
    · split
      · simp [Memory.lookup]
      · rename_i hne
        simp [Memory.lookup, Ne.symm hne, ih]

theorem Memory.lookup_insert_other (m : Memory) {a b : Nat} (v : Byte) (h : b ≠ a) :
    Memory.lookup (Memory.insert m a v) b = Memory.lookup m b := by
  induction m with
  | nil => simp [Memory.insert, Memory.lookup, Ne.symm h]
  | cons p rest ih =>
    obtain ⟨x, w⟩ := p
    simp only [Memory.insert]
    split
    · simp [Memory.lookup, Ne.symm h]
    · split
      · rename_i heq
        subst heq
        simp [Memory.lookup, Ne.symm h]
      · simp [Memory.lookup, ih]

theorem Memory.wfFrom_insert (m : Memory) {lo a : Nat} (v : Byte) (hlo : lo ≤ a) (ha : a < Config.FRAME_LEN)
    (h : Memory.wfFrom lo m = true) : Memory.wfFrom lo (Memory.insert m a v) = true := by
  induction m generalizing lo with
  | nil => simp [Memory.insert, Memory.wfFrom, hlo, ha]
  | cons p rest ih =>
    obtain ⟨x, w⟩ := p
    simp only [Memory.wfFrom, Bool.and_eq_true, decide_eq_true_eq] at h
    obtain ⟨⟨h1, h2⟩, h3⟩ := h
    simp only [Memory.insert]
    split
    · rename_i hlt
      simp [Memory.wfFrom, hlo, ha, h2, h3, Nat.succ_le_of_lt hlt]
    · split
      · rename_i heq
        subst heq
        simp [Memory.wfFrom, hlo, ha, h3]
      · simp only [Memory.wfFrom, h1, h2, decide_true, Bool.true_and]
        exact ih (by omega) h3

/-- Every write keeps the canonical form. -/
theorem Memory.wf_insert (m : Memory) {a : Nat} (v : Byte) (ha : a < Config.FRAME_LEN)
    (h : Memory.wf m = true) : Memory.wf (Memory.insert m a v) = true :=
  Memory.wfFrom_insert m v (Nat.zero_le a) ha h

/-- `writeBuf` keeps the canonical form at every index. -/
theorem State.writeBuf_wf (s : State) (i : Nat) (v : Byte) (h : Memory.wf s.buf = true) :
    Memory.wf (s.writeBuf i v).buf = true := by
  by_cases hi : i < Config.FRAME_LEN
  · rw [s.writeBuf_buf hi]
    exact Memory.wf_insert _ v hi h
  · rwa [s.writeBuf_out_of_bounds hi]

/-- The reset state's buffer is in canonical form. -/
theorem State.reset_wf : Memory.wf State.reset.buf = true := rfl

/-- A byte written within the buffer is the byte read. -/
theorem State.readBuf_writeBuf_same (s : State) {i : Nat} (v : Byte) (h : i < Config.FRAME_LEN) :
    (s.writeBuf i v).readBuf i = v := by
  simp [State.readBuf, s.writeBuf_buf h, Memory.lookup_insert_same]

/-- A write leaves every other byte alone. -/
theorem State.readBuf_writeBuf_other (s : State) {i j : Nat} (v : Byte) (h : j ≠ i) :
    (s.writeBuf i v).readBuf j = s.readBuf j := by
  by_cases hi : i < Config.FRAME_LEN
  · simp [State.readBuf, s.writeBuf_buf hi, Memory.lookup_insert_other _ v h]
  · rw [s.writeBuf_out_of_bounds hi]

variable (s : State)

/-- A draw is counted exactly when one is made. -/
@[simp] theorem State.noteDraw_draws (f : Frame) : (s.noteDraw f).draws =
    if drawsTarget s.params.tgtHighPolicy (fieldTgtCode f) then s.draws + 1 else s.draws := by
  unfold State.noteDraw
  split <;> rfl

@[simp] theorem State.setState_readBuf (p : ParserState) (i : Nat) : (s.setState p).readBuf i = s.readBuf i := rfl
@[simp] theorem State.setCursor_readBuf (v : BitVec 4) (i : Nat) : (s.setCursor v).readBuf i = s.readBuf i := rfl
@[simp] theorem State.output_readBuf (e : Option OutputEvent) (i : Nat) : (s.output e).readBuf i = s.readBuf i := rfl
@[simp] theorem State.awaitNextFrame_readBuf (i : Nat) : s.awaitNextFrame.readBuf i = s.readBuf i := rfl
@[simp] theorem State.takeInput_readBuf (i : Nat) : s.takeInput.readBuf i = s.readBuf i := rfl
@[simp] theorem State.withInputs_readBuf (l : List Input) (i : Nat) : (s.withInputs l).readBuf i = s.readBuf i := rfl
@[simp] theorem State.noteDraw_readBuf (f : Frame) (i : Nat) : (s.noteDraw f).readBuf i = s.readBuf i := by
  simp [State.readBuf]

/-- After RESET every byte is the next free contents'. -/
theorem State.forgetBuf_readBuf (i : Nat) :
    s.forgetBuf.readBuf i = Config.freeBufByte (s.bufGen + 1) i := rfl

/-- Two states that read the same at indexes 0..14 hold the same frame. -/
theorem State.frame_congr {s t : State} (h : ∀ i, i < 15 → t.readBuf i = s.readBuf i) : t.frame = s.frame := by
  unfold State.frame
  congr 1
  funext i
  exact h i.val i.isLt

@[simp] theorem State.frame_getElem (i : Nat) (h : i < 15) : s.frame[i] = s.readBuf i := by
  simp [State.frame]

@[simp] theorem State.takeInput_frame : s.takeInput.frame = s.frame := State.frame_congr fun _ _ => rfl
@[simp] theorem State.withInputs_frame (l : List Input) : (s.withInputs l).frame = s.frame :=
  State.frame_congr fun _ _ => rfl
@[simp] theorem State.decodeCtx_state : s.decodeCtx.state = s.state := rfl
@[simp] theorem State.decodeCtx_cursor : s.decodeCtx.cursor = s.cursor := rfl
@[simp] theorem State.decodeCtx_computed : s.decodeCtx.computed = frameChecksum s.frame := rfl
@[simp] theorem State.takeInput_decodeCtx : s.takeInput.decodeCtx = s.decodeCtx := rfl
@[simp] theorem State.withInputs_decodeCtx (l : List Input) : (s.withInputs l).decodeCtx = s.decodeCtx := rfl

end Sys2Proof.Machine
end

