-- ==== Sys2Proof/Laws/Checksum.lean ====
section
/-! SUPPORT. The checksum as one explicit sum, and the completing frame's bytes. -/

namespace Sys2Proof.Machine

/-- The unsigned sum of a frame's bytes 2 to 13, before it is taken modulo 256. -/
def frameSum (f : Frame) : Nat :=
  f[2].toNat + f[3].toNat + f[4].toNat + f[5].toNat + f[6].toNat + f[7].toNat + f[8].toNat + f[9].toNat
    + f[10].toNat + f[11].toNat + f[12].toNat + f[13].toNat

/-- A frame written out byte by byte. -/
theorem frame_eq_literal (f : Frame) :
    f = #v[f[0], f[1], f[2], f[3], f[4], f[5], f[6], f[7], f[8], f[9], f[10], f[11], f[12], f[13], f[14]] := by
  ext i hi
  simp only [Config.FRAME_LEN] at hi
  rcases i with _ | _ | _ | _ | _ | _ | _ | _ | _ | _ | _ | _ | _ | _ | _ | i <;> first | rfl | omega

/-- A frame's bytes in order. -/
theorem frame_toList (f : Frame) :
    f.toList = [f[0], f[1], f[2], f[3], f[4], f[5], f[6], f[7], f[8], f[9], f[10], f[11], f[12], f[13], f[14]] := by
  conv => lhs; rw [frame_eq_literal f]
  rfl

/-- The inbound checksum is the sum of bytes 2 to 13 modulo 256 (42_checksum.md R140, R141). -/
theorem frameChecksum_eq (f : Frame) : frameChecksum f = BitVec.ofNat 8 (frameSum f) := by
  unfold frameChecksum checksum frameSum
  rw [frame_toList]
  simp [Config.CKS_LO, Config.CKS_HI, ← Nat.add_assoc]

/-- The checksum reads bytes 2 to 13 only. -/
theorem frameChecksum_congr {f g : Frame} (h : ∀ i, (hi : i < 15) → 2 ≤ i → i ≤ 13 → f[i] = g[i]) :
    frameChecksum f = frameChecksum g := by
  rw [frameChecksum_eq, frameChecksum_eq]
  unfold frameSum
  rw [h 2 _ (by omega) (by omega), h 3 _ (by omega) (by omega), h 4 _ (by omega) (by omega),
    h 5 _ (by omega) (by omega), h 6 _ (by omega) (by omega), h 7 _ (by omega) (by omega),
    h 8 _ (by omega) (by omega), h 9 _ (by omega) (by omega), h 10 _ (by omega) (by omega),
    h 11 _ (by omega) (by omega), h 12 _ (by omega) (by omega), h 13 _ (by omega) (by omega)]

variable (s : State) (b : Byte)

theorem State.completeFrame_readBuf_last : (s.completeFrame b).readBuf 14 = b := by
  simp only [State.completeFrame, State.setCursor_readBuf, Config.CKS_POS]
  exact s.readBuf_writeBuf_same b (by decide)

theorem State.completeFrame_readBuf_other {i : Nat} (h : i ≠ 14) :
    (s.completeFrame b).readBuf i = s.readBuf i := by
  simp only [State.completeFrame, State.setCursor_readBuf, Config.CKS_POS]
  exact s.readBuf_writeBuf_other b h

/-- Writing the last byte does not change the checksum (41_feed.md R110). -/
theorem State.completeFrame_checksum :
    frameChecksum (s.completeFrame b).frame = frameChecksum s.frame := by
  refine frameChecksum_congr fun i hi h2 h13 => ?_
  rw [State.frame_getElem, State.frame_getElem, s.completeFrame_readBuf_other b (by omega)]

/-- The completed frame byte by byte. -/
theorem State.completedFrame_getElem (i : Nat) (h : i < 15) :
    (s.completedFrame b)[i] = if i = 14 then b else s.readBuf i := by
  rw [State.completedFrame, State.frame_getElem]
  split
  · rename_i e
    subst e
    exact s.completeFrame_readBuf_last b
  · rename_i e
    exact s.completeFrame_readBuf_other b e

/-- Its checksum is the one the row was selected by. -/
theorem State.completedFrame_checksum : frameChecksum (s.completedFrame b) = frameChecksum s.frame :=
  s.completeFrame_checksum b

end Sys2Proof.Machine
end

