-- ==== Sys2Proof/Laws/Command.lean ====
section
/-! SUPPORT. The command frame byte by byte, its checksum as one sum, and the desired-state port as an operand. -/

namespace Sys2Proof.Machine

/-- The command frame written out (44_command_encode.md R170). -/
theorem commandFrame_eq_literal (d : DesiredState) :
    commandFrame d = #v[Config.HDR0, Config.HDR1, cmdPower d, cmdModeFan d, 0x00#8, targetCode d.mode d.target,
      0x00#8, 0x00#8, 0x00#8, cmdChecksum d] := rfl

/-- The reserved zeros add nothing to the checksum (42_checksum.md R142). -/
theorem cmdChecksum_eq_sum (d : DesiredState) :
    cmdChecksum d = cmdPower d + cmdModeFan d + targetCode d.mode d.target := by
  show checksum [Config.HDR0, Config.HDR1, cmdPower d, cmdModeFan d, 0x00#8, targetCode d.mode d.target, 0x00#8, 0x00#8,
    0x00#8, 0x00#8] 2 8 = _
  simp [checksum, BitVec.ofNat_add, BitVec.add_assoc]

/-- A target code is one the table lists as produced by the encoder (30_encoding.md R71). -/
theorem targetCode_le (m : Mode) (t : Byte) : (targetCode m t).toNat ≤ Config.TGT_CODE_MAX := by
  cases m <;> simp [targetCode, clampTarget]
  omega

/-- A port that an operand drives holds that operand (10_state.md R29, 44_command_encode.md R171). -/
@[simp] theorem desiredOfPort_portOfDesired (d : DesiredState) : desiredOfPort (portOfDesired d) = some d := by
  obtain ⟨power, fanHigh, mode, target⟩ := d
  cases mode <;> rfl

end Sys2Proof.Machine
end

