-- ==== Sys2Proof/Laws/Decode.lean ====
section
/-! SUPPORT. The fields of an event word, and which rows the decoder can answer. -/

namespace Sys2Proof

@[simp] theorem evKind_eventWord (k : BitVec 2) (b : Byte) : evKind (eventWord k b) = k := by
  unfold evKind eventWord
  ext i hi
  have h := BitVec.getLsbD_append (x := k) (y := b) (i := 8 + i)
  simpa [BitVec.getLsbD_eq_getElem hi] using h

@[simp] theorem evData_eventWord (k : BitVec 2) (b : Byte) : evData (eventWord k b) = b := by
  unfold evData eventWord
  ext i hi
  have h := BitVec.getLsbD_append (x := k) (y := b) (i := i)
  simpa [hi, BitVec.getLsbD_eq_getElem hi] using h

/-- A word is its two fields (30_encoding.md R60). -/
theorem eventWord_evKind_evData (w : EventWord) : eventWord (evKind w) (evData w) = w := by
  unfold eventWord evKind evData
  ext i hi
  simp only [BitVec.getElem_append]
  split
  · simp [BitVec.getLsbD_eq_getElem hi]
  · simp [show 8 + (i - 8) = i by omega, BitVec.getLsbD_eq_getElem hi]

/-- The kinds are four: a word that is none of the first three is ENCODE's kind. -/
theorem evKind_cases (k : BitVec 2) : k = 0b00#2 ∨ k = 0b01#2 ∨ k = 0b10#2 ∨ k = 0b11#2 := by
  revert k; decide

/-- A representable collecting cursor is 2 to 13 or 14. -/
theorem representable_collect {c : BitVec 4} (h : representable .collect c = true) :
    (2 ≤ c.toNat ∧ c.toNat ≤ 13) ∨ c.toNat = 14 := by
  simp only [representable, Config.HDR_LEN, Config.CKS_POS, Bool.and_eq_true, decide_eq_true_eq] at h
  omega

variable (c : DecodeCtx) (b : Byte)

/-! The row conditions as propositions (30_encoding.md R62). -/

@[simp] theorem rowApplies_idle : rowApplies c .idle = true := rfl
@[simp] theorem rowApplies_reset : rowApplies c .reset = true := rfl
@[simp] theorem rowApplies_encode : rowApplies c .encode = true := rfl
@[simp] theorem rowApplies_feedA1Hdr0 :
    rowApplies c .feedA1Hdr0 = true ↔ c.state = .await1 ∧ c.cursor = 0#4 := by
  simp [rowApplies]
@[simp] theorem rowApplies_feedA1Noise :
    rowApplies c (.feedA1Noise b) = true ↔ c.state = .await1 ∧ c.cursor = 0#4 ∧ b ≠ Config.HDR0 := by
  simp [rowApplies, and_assoc]
@[simp] theorem rowApplies_feedA2Hdr1 :
    rowApplies c .feedA2Hdr1 = true ↔ c.state = .await2 ∧ c.cursor = 0#4 := by
  simp [rowApplies]
@[simp] theorem rowApplies_feedA2Rearm :
    rowApplies c .feedA2Rearm = true ↔ c.state = .await2 ∧ c.cursor = 0#4 := by
  simp [rowApplies]
@[simp] theorem rowApplies_feedA2Noise :
    rowApplies c (.feedA2Noise b) = true ↔
      c.state = .await2 ∧ c.cursor = 0#4 ∧ b ≠ Config.HDR1 ∧ b ≠ Config.HDR0 := by
  simp [rowApplies, and_assoc]
@[simp] theorem rowApplies_feedColData :
    rowApplies c (.feedColData b) = true ↔ c.state = .collect ∧ 2 ≤ c.cursor.toNat ∧ c.cursor.toNat ≤ 13 := by
  simp [rowApplies, Config.HDR_LEN, Config.CKS_POS, Nat.lt_succ_iff, and_assoc]
@[simp] theorem rowApplies_feedColLastOk :
    rowApplies c (.feedColLastOk b) = true ↔ c.state = .collect ∧ c.cursor.toNat = 14 ∧ c.computed = b := by
  simp [rowApplies, Config.CKS_POS, and_assoc]
@[simp] theorem rowApplies_feedColLastBad :
    rowApplies c (.feedColLastBad b) = true ↔ c.state = .collect ∧ c.cursor.toNat = 14 ∧ c.computed ≠ b := by
  simp [rowApplies, Config.CKS_POS, and_assoc]

end Sys2Proof
end

