-- ==== Sys2Proof/Laws/Exec.lean ====
section
/-! SUPPORT. What the row guard can answer, what a step can do, and the names of exec's arms. -/

namespace Sys2Proof.Machine

/-- The guard passes on exactly what its meaning answers. -/
theorem onRow_eq_next {i : Instr} {s t : State} {k : Host.Outcome State Fault Refusal}
    (h : onRow i s k = .next t) : s.isRepresentable = true ∧ rowApplies s.decodeCtx i = true ∧ k = .next t := by
  unfold onRow at h
  split at h
  · split at h
    · exact ⟨‹_›, ‹_›, h⟩
    · cases h
  · cases h

/-- Where the row applies, the guard is the meaning. -/
theorem onRow_of_applies {i : Instr} {s : State} (k : Host.Outcome State Fault Refusal)
    (hr : s.isRepresentable = true) (ha : rowApplies s.decodeCtx i = true) : onRow i s k = k := by
  simp [onRow, hr, ha]

/-- The guard's own refusals. -/
theorem onRow_of_unreachable {i : Instr} {s : State} (k : Host.Outcome State Fault Refusal)
    (hr : s.isRepresentable = false) : onRow i s k = .refused .unreachableState := by
  simp [onRow, hr]

theorem onRow_of_not_applies {i : Instr} {s : State} (k : Host.Outcome State Fault Refusal)
    (hr : s.isRepresentable = true) (ha : rowApplies s.decodeCtx i = false) :
    onRow i s k = .refused .rowNotSelected := by
  simp [onRow, hr, ha]

/-- A step that answers a next state ran the decoded instruction on the state with its event taken. -/
theorem step_eq_next {s t : State} (h : step s = .next t) :
    ∃ i, decode s.decodeCtx s.presented.ev = .ok i ∧ exec i s.takeInput = .next t := by
  unfold step at h
  split at h
  · exact ⟨_, ‹_›, h⟩
  · cases h

/-- A step on a decoded word. -/
theorem step_of_decode {s : State} {i : Instr} (h : decode s.decodeCtx s.presented.ev = .ok i) :
    step s = exec i s.takeInput := by
  simp [step, h]

@[simp] theorem State.takeInput_isRepresentable (s : State) : s.takeInput.isRepresentable = s.isRepresentable := rfl
@[simp] theorem State.withInputs_isRepresentable (s : State) (l : List Input) :
    (s.withInputs l).isRepresentable = s.isRepresentable := rfl

/-- No meaning touches the host's list. -/
theorem exec_inputs {i : Instr} {s t : State} (h : exec i s = .next t) : t.inputs = s.inputs := by
  cases i
  case encode =>
    obtain ⟨-, -, hk⟩ := onRow_eq_next h
    split at hk
    · split at hk
      · cases hk
      · cases hk; rfl
    · cases hk
  all_goals
    obtain ⟨-, -, hk⟩ := onRow_eq_next h
    cases hk
    simp

theorem step_inputs {s t : State} (h : step s = .next t) : t.inputs = s.inputs.tail := by
  obtain ⟨i, -, hx⟩ := step_eq_next h
  simpa using exec_inputs hx

/-- The host's run takes a step that answers a next state, and goes on from there. -/
theorem core_run_next (n : Nat) {s t : State} (h : step s = .next t) :
    Host.Core.run Sys2Proof.core (n + 1) s = Host.Core.run Sys2Proof.core n t := by
  have hc : Host.Core.step Sys2Proof.core s = .next t := h
  simp [Host.Core.run, hc]

/-- The host's run stops at a refusal. -/
theorem core_run_refused (n : Nat) {s : State} {r : Refusal} (h : step s = .refused r) :
    Host.Core.run Sys2Proof.core (n + 1) s = .refused r := by
  have hc : Host.Core.step Sys2Proof.core s = .refused r := h
  simp [Host.Core.run, hc]

@[simp] theorem State.withInputs_self (s : State) : s.withInputs s.inputs = s := rfl

@[simp] theorem stateAfter_nil (s : State) : stateAfter s [] = some (s.withInputs []) := rfl

/-- A run takes its first event, then runs the rest. -/
theorem stateAfter_cons (s : State) (i : Input) (rest : List Input) :
    stateAfter s (i :: rest) =
      match step (s.withInputs (i :: rest)) with
      | .next t => stateAfter t rest
      | .fault _ => none
      | .refused _ => none := by
  cases hs : step (s.withInputs (i :: rest)) with
  | next t =>
    have ht : t.withInputs rest = t := by
      have : t.inputs = rest := by simpa using step_inputs hs
      rw [← this, State.withInputs_self]
    simp only [stateAfter, List.length_cons, core_run_next _ hs, ht]
  | fault r => cases r
  | refused r => simp only [stateAfter, List.length_cons, core_run_refused _ hs]

/-! What a step does depends on the event it takes, not on the events still to come. -/

theorem State.writeBuf_withInputs (s : State) (l : List Input) (a : Nat) (v : Byte) :
    (s.withInputs l).writeBuf a v = (s.writeBuf a v).withInputs l := by
  unfold State.writeBuf
  split <;> rfl

theorem State.noteDraw_withInputs (s : State) (l : List Input) (f : Frame) :
    (s.withInputs l).noteDraw f = (s.noteDraw f).withInputs l := by
  unfold State.noteDraw
  have hp : (s.withInputs l).params = s.params := rfl
  rw [hp]
  split <;> rfl

theorem onRow_withInputs {i : Instr} {s t : State} {l : List Input} {k k' : Host.Outcome State Fault Refusal}
    (hk : k = .next t → k' = .next (t.withInputs l)) (h : onRow i s k = .next t) :
    onRow i (s.withInputs l) k' = .next (t.withInputs l) := by
  obtain ⟨hr, ha, ht⟩ := onRow_eq_next h
  rw [onRow_of_applies (s := s.withInputs l) k' hr ha, hk ht]

/-- A meaning does the same whatever the host's list holds. -/
theorem exec_withInputs {i : Instr} {s t : State} (l : List Input) (h : exec i s = .next t) :
    exec i (s.withInputs l) = .next (t.withInputs l) := by
  cases i
  case feedA2Hdr1 =>
    refine onRow_withInputs (fun hk => ?_) h
    cases hk
    rw [State.writeBuf_withInputs, State.writeBuf_withInputs]
    rfl
  case feedColData b =>
    refine onRow_withInputs (fun hk => ?_) h
    cases hk
    rw [State.writeBuf_withInputs]
    rfl
  case feedColLastOk b =>
    refine onRow_withInputs (fun hk => ?_) h
    cases hk
    have hc : (s.withInputs l).completeFrame b = (s.completeFrame b).withInputs l := by
      rw [State.completeFrame, State.writeBuf_withInputs]; rfl
    rw [hc, State.noteDraw_withInputs, State.completedFrame, hc]
    rfl
  case feedColLastBad b =>
    refine onRow_withInputs (fun hk => ?_) h
    cases hk
    have hc : (s.withInputs l).completeFrame b = (s.completeFrame b).withInputs l := by
      rw [State.completeFrame, State.writeBuf_withInputs]; rfl
    rw [State.completedFrame, hc]
    rfl
  case encode =>
    refine onRow_withInputs (fun hk => ?_) h
    simp only [State.withInputs_params, State.withInputs_ds]
    split at hk
    · split at hk
      · cases hk
      · cases hk
        simp_all
        rfl
    · cases hk
  all_goals
    refine onRow_withInputs (fun hk => ?_) h
    cases hk
    rfl

/-- A step does the same whatever events are to come after the one it takes. -/
theorem step_withInputs {s t : State} {i : Input} {l : List Input} (l' : List Input)
    (h : step (s.withInputs (i :: l)) = .next t) : step (s.withInputs (i :: l')) = .next (t.withInputs l') := by
  obtain ⟨j, hd, hx⟩ := step_eq_next h
  have hd' : decode (s.withInputs (i :: l')).decodeCtx (s.withInputs (i :: l')).presented.ev = .ok j := hd
  rw [step_of_decode hd']
  exact exec_withInputs l' hx

/-- A run over a longer list is the run over its front, then the last step. -/
theorem stateAfter_append (s : State) (a b : List Input) :
    stateAfter s (a ++ b) = (stateAfter s a).bind fun u => stateAfter u b := by
  induction a generalizing s with
  | nil => rfl
  | cons i rest ih =>
    rw [List.cons_append, stateAfter_cons, stateAfter_cons]
    cases h : step (s.withInputs (i :: (rest ++ b))) with
    | next t =>
      rw [step_withInputs rest h]
      have hr : stateAfter (t.withInputs rest) rest = stateAfter t rest := by simp [stateAfter]
      simp only [ih, hr]
    | fault r => cases r
    | refused r =>
      cases h' : step (s.withInputs (i :: rest)) with
      | next t => simp [step_withInputs (rest ++ b) h'] at h
      | fault r => cases r
      | refused r => rfl

end Sys2Proof.Machine
end

