-- ==== Sys2Proof/Laws/PerInstr.lean ====
section
/-! SUPPORT. Facts about every instruction as syntax, one lemma per constructor. -/

namespace Sys2Proof.Laws.RowMatch

/-- The encoder's word meets the row's match and mask of spec/opcode_table.json (30_encoding.md R64), and a row whose
mask covers the whole word is that one word. -/
def Statement (i : Instr) : Prop :=
  encode i &&& rowMask i = rowMatch i ∧ (rowMask i = 0x3FF#10 → encode i = rowMatch i)

/-- The kind bits of a FEED word, under the mask of its kind. -/
theorem feed_masked (b : Byte) : eventWord 0b01#2 b &&& 0x300#10 = 0x100#10 := by
  revert b; decide

theorem idle : Statement .idle := by unfold Statement; decide
theorem feedA1Hdr0 : Statement .feedA1Hdr0 := by unfold Statement; decide
theorem feedA1Noise (b : Byte) : Statement (.feedA1Noise b) := ⟨feed_masked b, by simp [rowMask]⟩
theorem feedA2Hdr1 : Statement .feedA2Hdr1 := by unfold Statement; decide
theorem feedA2Rearm : Statement .feedA2Rearm := by unfold Statement; decide
theorem feedA2Noise (b : Byte) : Statement (.feedA2Noise b) := ⟨feed_masked b, by simp [rowMask]⟩
theorem feedColData (b : Byte) : Statement (.feedColData b) := ⟨feed_masked b, by simp [rowMask]⟩
theorem feedColLastOk (b : Byte) : Statement (.feedColLastOk b) := ⟨feed_masked b, by simp [rowMask]⟩
theorem feedColLastBad (b : Byte) : Statement (.feedColLastBad b) := ⟨feed_masked b, by simp [rowMask]⟩
theorem reset : Statement .reset := by unfold Statement; decide
theorem encode : Statement .encode := by unfold Statement; decide

end Sys2Proof.Laws.RowMatch
end

