-- ==== Sys2Proof/Laws/System.lean ====
section
/-! SUPPORT. What a step of a system can do, said once, and the number of its instances. -/

namespace Sys2Proof.Machine

/-- A system's step that answers a next system either named no instance, or was that instance's own step. -/
theorem System.stepAt_eq_next {sys sys' : System} {k : Nat} (h : System.stepAt sys k = .next sys') :
    (sys[k]? = none ∧ sys' = sys) ∨ ∃ s t, sys[k]? = some s ∧ step s = .next t ∧ sys' = sys.set k t := by
  unfold System.stepAt at h
  split at h
  · cases h
    exact .inl ⟨‹_›, rfl⟩
  · split at h <;> cases h
    exact .inr ⟨_, _, ‹_›, ‹_›, rfl⟩

/-- The bound on `N_INSTANCES` (00_scope.md R7) is kept. -/
theorem System.stepAt_wf {sys sys' : System} {k : Nat} (hw : sys.wf) (h : System.stepAt sys k = .next sys') :
    sys'.wf := by
  obtain ⟨-, rfl⟩ | ⟨_, _, -, -, rfl⟩ := System.stepAt_eq_next h
  · exact hw
  · simpa using hw

end Sys2Proof.Machine
end

