-- ==== Sys2Proof/Tests/Slice0.lean ====
section
/-! SUPPORT. The model's own tests. Expected results are hand-derived from the rules or copied from
95_test_vectors.md, whose vector each test names. The witnesses show that each statement's hypotheses can be met. -/

namespace Sys2Proof.Tests

open Sys2Proof.Machine

/-! ## Helpers -/

/-- A state with the given registers and buffer, everything else as after reset. -/
def st (p : ParserState) (c : BitVec 4) (buf : Memory) : State :=
  { State.reset with state := p, cursor := c, buf := buf }

/-- Bytes listed from index `a` on. -/
def cells (a : Nat) (bs : List Byte) : Memory :=
  match bs with
  | [] => []
  | b :: rest => (a, b) :: cells (a + 1) rest

/-- The first 14 bytes of W2's frame, the whole of which is `BB 51 80 11 2D 00 00 80 00 04 00 00 00 00 42`. -/
def w2buf : Memory :=
  cells 0 [0xBB#8, 0x51#8, 0x80#8, 0x11#8, 0x2D#8, 0x00#8, 0x00#8, 0x80#8, 0x00#8, 0x04#8, 0x00#8, 0x00#8, 0x00#8,
    0x00#8]

def w2frame (last : Byte) : Frame :=
  #v[0xBB#8, 0x51#8, 0x80#8, 0x11#8, 0x2D#8, 0x00#8, 0x00#8, 0x80#8, 0x00#8, 0x04#8, 0x00#8, 0x00#8, 0x00#8, 0x00#8,
    last]

/-- One byte short of W2's frame. -/
def atLast : State := st .collect 14#4 w2buf

/-- Collecting at cursor `c`, with the header held. -/
def collecting (c : BitVec 4) : State := st .collect c (cells 0 [0xBB#8, 0x51#8])

/-- The outcome is a next state with the property. -/
def nextWith (o : Host.Outcome State Fault Refusal) (p : State → Bool) : Bool :=
  match o with
  | .next t => p t
  | .fault _ => false
  | .refused _ => false

/-- The outcome is this refusal. -/
def refusedWith (o : Host.Outcome State Fault Refusal) (r : Refusal) : Bool :=
  match o with
  | .next _ => false
  | .fault _ => false
  | .refused r' => r == r'

/-- The state with one word presented. -/
def presents (s : State) (w : EventWord) : State := s.withInputs [⟨w, DesiredPort.default⟩]

/-- The operand of W3. -/
def w3 : DesiredState := ⟨true, true, .humidity, 65#8⟩

/-! ## Well-formedness: each check refuses an ill-formed term -/

theorem test_wf_a1Noise_refuses_hdr0 : Instr.wf (.feedA1Noise 0xBB#8) = false := by decide
theorem test_wf_a2Noise_refuses_hdr0 : Instr.wf (.feedA2Noise 0xBB#8) = false := by decide
theorem test_wf_a2Noise_refuses_hdr1 : Instr.wf (.feedA2Noise 0x51#8) = false := by decide
theorem test_wf_a1Noise_accepts_hdr1 : Instr.wf (.feedA1Noise 0x51#8) = true := by decide

/-! ## Decoding: one word of every row, from the opcode table's bit patterns -/

/-- The decoder answers this instruction. -/
def decodesTo (p : ParserState) (c : BitVec 4) (sum : Byte) (w : EventWord) (i : Instr) : Bool :=
  match decode ⟨p, c, sum⟩ w with
  | .ok j => i == j
  | .error _ => false

/-- The decoder rejects the word for this reason. -/
def rejects (p : ParserState) (c : BitVec 4) (w : EventWord) (r : DecodeReject) : Bool :=
  match decode ⟨p, c, 0#8⟩ w with
  | .ok _ => false
  | .error r' => r == r'

theorem test_decode_idle : decodesTo .collect 7#4 0#8 0b0000000000#10 .idle = true := by decide
theorem test_decode_a1Hdr0 : decodesTo .await1 0#4 0#8 0b0110111011#10 .feedA1Hdr0 = true := by decide
theorem test_decode_a1Noise : decodesTo .await1 0#4 0#8 0b0111111111#10 (.feedA1Noise 0xFF#8) = true := by decide
theorem test_decode_a2Hdr1 : decodesTo .await2 0#4 0#8 0b0101010001#10 .feedA2Hdr1 = true := by decide
theorem test_decode_a2Rearm : decodesTo .await2 0#4 0#8 0b0110111011#10 .feedA2Rearm = true := by decide
theorem test_decode_a2Noise : decodesTo .await2 0#4 0#8 0b0100000000#10 (.feedA2Noise 0x00#8) = true := by decide
theorem test_decode_colData : decodesTo .collect 2#4 0#8 0b0110111011#10 (.feedColData 0xBB#8) = true := by decide
theorem test_decode_colLastOk :
    decodesTo .collect 14#4 0x42#8 0b0101000010#10 (.feedColLastOk 0x42#8) = true := by decide
theorem test_decode_colLastBad :
    decodesTo .collect 14#4 0x42#8 0b0101000011#10 (.feedColLastBad 0x43#8) = true := by decide
theorem test_decode_reset : decodesTo .await2 0#4 0#8 0b1000000000#10 .reset = true := by decide
theorem test_decode_encode : decodesTo .await1 0#4 0#8 0b1100000000#10 .encode = true := by decide

/-- V3 and V6: nonzero reserved bits. -/
theorem test_decode_reserved_idle : rejects .await1 0#4 0x001#10 .reservedEventBits = true := by decide
theorem test_decode_reserved_reset : rejects .collect 5#4 0x2FF#10 .reservedEventBits = true := by decide
/-- V12, and R202: the unreachable state comes before the reserved bits. -/
theorem test_decode_unreachable : rejects .collect 0#4 0x1BB#10 .unreachableState = true := by decide
theorem test_decode_unreachable_first : rejects .collect 15#4 0x001#10 .unreachableState = true := by decide

/-! ## One step of every instruction -/

/-- V1. -/
theorem test_idle_keeps_partial_frame :
    nextWith (step (presents (collecting 7#4) 0x000#10)) (fun t => t.state == .collect && t.cursor == 7#4
      && t.buf == (collecting 7#4).buf && t.out == none) = true := by decide
/-- F1. -/
theorem test_a1Hdr0 :
    nextWith (step (presents State.reset 0x1BB#10)) (fun t => t.state == .await2 && t.cursor == 0#4 && t.buf == [])
      = true := by decide
/-- F2: a second header byte without a first one is noise. -/
theorem test_a1Noise_hdr1 :
    nextWith (step (presents State.reset 0x151#10)) (fun t => t.state == .await1 && t.cursor == 0#4) = true := by decide
/-- F5. -/
theorem test_a2Hdr1 :
    nextWith (step (presents (st .await2 0#4 []) 0x151#10)) (fun t => t.state == .collect && t.cursor == 2#4
      && t.buf == [(0, 0xBB#8), (1, 0x51#8)]) = true := by decide
/-- F6. -/
theorem test_a2Rearm :
    nextWith (step (presents (st .await2 0#4 []) 0x1BB#10)) (fun t => t.state == .await2) = true := by decide
/-- F8. -/
theorem test_a2Noise :
    nextWith (step (presents (st .await2 0#4 []) 0x150#10)) (fun t => t.state == .await1) = true := by decide
/-- F9. -/
theorem test_colData_first :
    nextWith (step (presents (collecting 2#4) 0x1BB#10)) (fun t => t.state == .collect && t.cursor == 3#4
      && t.readBuf 2 == 0xBB#8) = true := by decide
/-- F11. -/
theorem test_colData_last :
    nextWith (step (presents (collecting 13#4) 0x100#10)) (fun t => t.state == .collect && t.cursor == 14#4
      && t.readBuf 13 == 0x00#8) = true := by decide
/-- F12. -/
theorem test_colLastOk :
    nextWith (step (presents atLast 0x142#10)) (fun t => t.state == .await1 && t.cursor == 0#4
      && t.out == some (.frameAccepted (w2frame 0x42#8)
        ⟨true, false, 45#8, 50#7, some .cold, true, true, 0#8⟩)) = true := by decide
/-- F14: the 0xBB does not start a header. -/
theorem test_colLastBad :
    nextWith (step (presents atLast 0x1BB#10)) (fun t => t.state == .await1 && t.cursor == 0#4
      && t.out == some (.checksumMismatch 0x42#8 0xBB#8 (w2frame 0xBB#8))) = true := by decide
/-- V4. -/
theorem test_reset_discards_partial_frame :
    nextWith (step (presents atLast 0x200#10)) (fun t => t.state == .await1 && t.cursor == 0#4 && t.out == none)
      = true := by decide
/-- V7 and W3. -/
theorem test_encode_in_mid_frame :
    nextWith (step ((collecting 9#4).withInputs [encodeRequest w3])) (fun t => t.state == .collect && t.cursor == 9#4
      && t.out == some (.commandFrame
        #v[0xBB#8, 0x51#8, 0x80#8, 0x32#8, 0x00#8, 0x09#8, 0x00#8, 0x00#8, 0x00#8, 0xBB#8])) = true := by decide

/-- V8 and V9. -/
theorem test_encode_without_encoder :
    refusedWith (step (presents (State.resetWith { hasEncoder := false }) 0x300#10)) .noEncoder = true := by decide
theorem test_reserved_bits_before_no_encoder :
    refusedWith (step (presents (State.resetWith { hasEncoder := false }) 0x301#10)) .reservedEventBits = true := by
  decide
/-- V10. -/
theorem test_encode_mode_eleven :
    refusedWith (step (State.reset.withInputs [⟨0x300#10, ⟨false, false, 0b11#2, 50#8⟩⟩])) .invalidMode = true := by
  decide
/-- A FEED row off its condition has no effect (log 7). -/
theorem test_row_off_its_condition :
    refusedWith (exec .feedA2Hdr1 State.reset) .rowNotSelected = true := by decide

/-! ## The combinational functions -/

/-- K3: twelve 0xFF bytes sum to 0xBF4. -/
theorem test_checksum_wraps : checksum (List.replicate 15 0xFF#8) 2 13 = 0xF4#8 := by decide
/-- W1 (90_conflicts.md C1): 0x04 at byte 13 is no full tank. -/
theorem test_snapshot_of_w1 :
    decodeSnapshot .clamp 0 #v[0xBB#8, 0x51#8, 0x80#8, 0x11#8, 0x2D#8, 0x00#8, 0x00#8, 0x80#8, 0x00#8, 0x00#8, 0x00#8,
      0x00#8, 0x00#8, 0x04#8, 0x42#8] = ⟨true, false, 45#8, 50#7, some .cold, true, false, 0#8⟩ := by decide
/-- S4: target code 15 under `clamp`; S3's temperature byte read as signed. -/
theorem test_target_code_fifteen : decodeTarget .clamp 0 0x0F#8 = 90#7 := by decide
theorem test_temperature_signed :
    temperatureReading { tempSigned := true } ⟨true, false, 50#8, 50#7, none, true, false, 128#8⟩ = -128 := by decide
/-- W4: the clamp boundaries. -/
theorem test_target_clamp_low : targetCode .humidity 29#8 = 0x02#8 := by decide
theorem test_target_clamp_high : targetCode .humidity 91#8 = 0x0E#8 := by decide
/-- S2: mode code 11 has no mode value on its port. -/
theorem test_ports_without_mode :
    (portsOf (some (.frameAccepted (w2frame 0#8) ⟨true, true, 255#8, 90#7, none, true, true, 255#8⟩))).snapModeValid
      = some false := by decide
/-- F13's event on the error port (10_state.md R36): the computed sum and the carried byte, each on its own signal. -/
theorem test_ports_of_mismatch :
    (portsOf (some (.checksumMismatch 0x42#8 0x43#8 (w2frame 0x43#8)))).errComputed = some 0x42#8
      ∧ (portsOf (some (.checksumMismatch 0x42#8 0x43#8 (w2frame 0x43#8)))).errExpected = some 0x43#8 := by decide
/-- The host's words after reset (log 9). -/
theorem test_table_word : decodeTableWord 16 0x1BB = some .feedA1Hdr0 := by decide
theorem test_placed_word_runs :
    nextWith (step (State.reset.withFetchWord 16 0x1BB)) (fun t => t.state == .await2) = true := by decide
/-- 60_exceptions.md R200's table. -/
theorem test_conditions :
    conditionOf (.feedA1Noise 0#8) = some .e0 ∧ conditionOf .feedA2Rearm = some .e0
      ∧ conditionOf (.feedColLastBad 0#8) = some .e1 ∧ conditionReported .e0 = false := by decide

/-! ## Witnesses: the hypotheses of each statement can be met together -/

theorem witness_DecodeOfEncodeIsTheInstruction :
    representable .collect 14#4 = true ∧ rowApplies ⟨.collect, 14#4, 0x42#8⟩ (.feedColLastOk 0x42#8) = true
      ∧ Instr.wf (.feedA2Noise 0x50#8) = true := by decide

theorem witness_DecodedWordIsTheEncodedWord : decode ⟨.collect, 13#4, 0#8⟩ 0x1BB#10 = .ok (.feedColData 0xBB#8) := rfl

/-- Each clause of the FEED map, at the ends of its range. -/
theorem witness_FeedWordSelectsExactlyOneRow :
    representable .await1 0#4 = true ∧ (0xBB#8 : Byte) = 0xBB#8 ∧ (0x51#8 : Byte) ≠ 0xBB#8
      ∧ representable .await2 0#4 = true ∧ (0x50#8 : Byte) ≠ 0x51#8 ∧ (0x50#8 : Byte) ≠ 0xBB#8
      ∧ representable .collect 2#4 = true ∧ (2#4 : BitVec 4) ≠ 14#4
      ∧ representable .collect 13#4 = true ∧ (13#4 : BitVec 4) ≠ 14#4
      ∧ representable .collect 14#4 = true ∧ (DecodeCtx.mk .collect 14#4 0x42#8).computed = 0x42#8
      ∧ (DecodeCtx.mk .collect 14#4 0x42#8).computed ≠ 0x43#8 := by decide

theorem witness_AcceptedWordsAreTheMaskedPatterns :
    representable .await1 0#4 = true ∧ (0x1FF#10 : EventWord) &&& 0x300#10 = 0x100#10
      ∧ decode ⟨.await1, 0#4, 0#8⟩ 0x301#10 = .error .reservedEventBits
      ∧ decode ⟨.collect, 2#4, 0#8⟩ 0x001#10 = .error .reservedEventBits := ⟨by decide, by decide, rfl, rfl⟩

theorem witness_StepRunsTheDecodedInstruction :
    decode (presents State.reset 0x1BB#10).decodeCtx (presents State.reset 0x1BB#10).presented.ev = .ok .feedA1Hdr0
      ∧ (presents State.reset 0x1BB#10).inputs = ⟨0x1BB#10, DesiredPort.default⟩ :: []
      ∧ State.reset.inputs = [] := ⟨rfl, rfl, rfl⟩

theorem witness_PlacedWordRunsAsTheTableWordDecodes : decodeTableWord 16 0x300 = some .encode := by decide

theorem witness_ReservedBitsRefusedAndEveryFeedWordLegal :
    (presents State.reset 0x0FF#10).Representable ∧ evKind (presents State.reset 0x0FF#10).presented.ev ≠ 0b01#2
      ∧ evData (presents State.reset 0x0FF#10).presented.ev ≠ 0#8
      ∧ (presents atLast 0x1FF#10).Representable
      ∧ (presents atLast 0x1FF#10).presented.ev = eventWord 0b01#2 0xFF#8 := by decide

/-- Each refusal's conditions, and a state that none of them holds of. -/
theorem witness_StepRefusesExactlyAsTheTableSays :
    ¬ (st .await2 15#4 []).Representable ∧ refusedWith (step (presents State.reset 0x201#10)) .reservedEventBits = true
      ∧ refusedWith (step (presents (State.resetWith { hasEncoder := false }) 0x300#10)) .noEncoder = true
      ∧ nextWith (step (presents State.reset 0x300#10)) (fun _ => true) = true := by decide

theorem witness_UnreachableStateRefusesEveryEvent :
    ¬ (st .collect 0#4 []).Representable ∧ ¬ (st .collect 1#4 []).Representable
      ∧ ¬ (st .collect 15#4 []).Representable ∧ ¬ (st .await1 1#4 []).Representable
      ∧ ¬ (st .await2 2#4 []).Representable := by decide

theorem witness_EveryLegalEventHasASuccessor :
    (presents State.reset 0x300#10).Representable
      ∧ decode (presents State.reset 0x300#10).decodeCtx (presents State.reset 0x300#10).presented.ev = .ok .encode
      ∧ (presents State.reset 0x300#10).params.hasEncoder = true
      ∧ (presents State.reset 0x300#10).presented.ds.mode ≠ 0b11#2 := ⟨by decide, rfl, rfl, by decide⟩

theorem witness_StepFramesTheHostSide : ∃ t, step (presents atLast 0x142#10) = .next t := ⟨_, rfl⟩

theorem witness_StepKeepsTheInvariant :
    (presents (collecting 13#4) 0x100#10).Inv ∧ ∃ t, step (presents (collecting 13#4) 0x100#10) = .next t :=
  ⟨⟨by decide, by decide, by decide⟩, ⟨_, rfl⟩⟩

theorem witness_BufferHoldsTheBytesFed :
    State.reset.state = .await1 ∧ State.reset.cursor = 0#4
      ∧ ∃ t, stateAfter State.reset (feeds [0xBB#8, 0x51#8]) = some t ∧ t.state = .collect := ⟨rfl, rfl, _, rfl, rfl⟩

/-- FirstHeaderByteGoesToAwait2, NoiseInAwait1IsDiscarded. -/
theorem witness_await1_rows : State.reset.state = .await1 ∧ State.reset.cursor = 0#4 ∧ (0x51#8 : Byte) ≠ 0xBB#8 := by
  decide

/-- HeaderCompleteStartsCollecting, RepeatedHeaderByteReArms, BrokenHeaderReturnsToAwait1. -/
theorem witness_await2_rows :
    (st .await2 0#4 w2buf).state = .await2 ∧ (st .await2 0#4 w2buf).cursor = 0#4
      ∧ (0x50#8 : Byte) ≠ 0x51#8 ∧ (0x50#8 : Byte) ≠ 0xBB#8 := by decide

/-- Both ends of the collecting range. -/
theorem witness_CollectedByteIsStoredAtTheCursor :
    (collecting 2#4).state = .collect ∧ 2 ≤ (collecting 2#4).cursor.toNat ∧ (collecting 2#4).cursor.toNat ≤ 13
      ∧ 2 ≤ (collecting 13#4).cursor.toNat ∧ (collecting 13#4).cursor.toNat ≤ 13 := by decide

theorem witness_MatchingChecksumAcceptsTheFrame :
    atLast.state = .collect ∧ atLast.cursor = 14#4
      ∧ checksum (atLast.writeBuf 14 0x42#8).frame.toList 2 13 = 0x42#8 := by decide

/-- The same under the `draw` policy with a target code above 14, where a free target is drawn. -/
theorem witness_MatchingChecksumDrawsATarget :
    (st .collect 14#4 (Memory.insert w2buf 5 0xFF#8)).state = .collect
      ∧ checksum (({ st .collect 14#4 (Memory.insert w2buf 5 0xFF#8) with params := { tgtHighPolicy := .draw } } :
          State).writeBuf 14 0x41#8).frame.toList 2 13 = 0x41#8
      ∧ drawsTarget .draw ((st .collect 14#4 (Memory.insert w2buf 5 0xFF#8)).readBuf 5) = true := by decide

theorem witness_ChecksumMismatchRejectsTheFrame :
    atLast.state = .collect ∧ atLast.cursor = 14#4
      ∧ checksum (atLast.writeBuf 14 0x43#8).frame.toList 2 13 ≠ 0x43#8 := by decide

/-- Both clauses: below the last index and at it. -/
theorem witness_HeaderBytesInsideAFrameAreData :
    (presents (collecting 13#4) 0x1BB#10).Representable ∧ (collecting 13#4).cursor.toNat < 14
      ∧ (presents (collecting 13#4) 0x1BB#10).presented.ev = eventWord 0b01#2 0xBB#8
      ∧ (presents atLast 0x151#10).Representable ∧ atLast.cursor.toNat = 14
      ∧ (presents atLast 0x151#10).presented.ev = eventWord 0b01#2 0x51#8 := by decide

/-- IdleChangesNothing, ResetReturnsToTheResetState, ResetEventAndPowerOnReachTheSameState. -/
theorem witness_control_events :
    atLast.Representable ∧ evKind (presents atLast 0x001#10).presented.ev = 0b00#2
      ∧ evData (presents atLast 0x001#10).presented.ev ≠ 0#8
      ∧ evKind (presents atLast 0x280#10).presented.ev = 0b10#2
      ∧ evData (presents atLast 0x280#10).presented.ev ≠ 0#8 := by decide

/-- One state per clause. -/
theorem witness_EncodeEmitsTheCommandFrame :
    (collecting 9#4).Representable ∧ (collecting 9#4).params.hasEncoder = true
      ∧ ({ collecting 9#4 with ds := portOfDesired w3 } : State).ds = portOfDesired w3
      ∧ evKind (presents State.reset 0x301#10).presented.ev = 0b11#2
      ∧ evData (presents State.reset 0x301#10).presented.ev ≠ 0#8
      ∧ (State.resetWith { hasEncoder := false }).Representable
      ∧ (State.resetWith { hasEncoder := false }).params.hasEncoder = false
      ∧ ({ State.reset with ds := ⟨true, true, 0b11#2, 255#8⟩ } : State).ds.mode = 0b11#2 := by decide

theorem witness_EveryPortValueButModeElevenIsLegal :
    ({ State.reset with ds := ⟨true, false, 0b10#2, 255#8⟩ } : State).Representable
      ∧ ({ State.reset with ds := ⟨true, false, 0b10#2, 255#8⟩ } : State).params.hasEncoder = true
      ∧ ({ State.reset with ds := ⟨true, false, 0b10#2, 255#8⟩ } : State).ds = ⟨true, false, 0b10#2, 255#8⟩ := by
  decide

theorem witness_OnlyFeedAndResetChangeTheParser :
    (∃ t, step (presents (collecting 7#4) 0x300#10) = .next t)
      ∧ (presents (collecting 7#4) 0x300#10).presented.isFeed = false
      ∧ (presents (collecting 7#4) 0x300#10).presented.isReset = false
      ∧ (∀ i ∈ [inputOf .idle, encodeRequest w3], i.isIdle = true ∨ i.isEncode = true)
      ∧ ∃ t, stateAfter (collecting 7#4) [inputOf .idle, encodeRequest w3] = some t :=
  ⟨⟨_, rfl⟩, rfl, rfl, by decide, ⟨_, rfl⟩⟩

theorem witness_OutputEventsComeOnlyFromTheirRows : ∃ t, step (presents atLast 0x143#10) = .next t := ⟨_, rfl⟩

theorem witness_AcceptedFramePublishesItsSnapshot :
    ∃ t f snap, step (presents atLast 0x142#10) = .next t ∧ t.out = some (.frameAccepted f snap) :=
  ⟨_, _, _, rfl, rfl⟩

theorem witness_RefusedRunHasNoObservation :
    ∃ s, stateAfter State.reset (feeds [0xBB#8]) = some s
      ∧ step (s.withInputs [⟨0x001#10, DesiredPort.default⟩]) = .refused .reservedEventBits := ⟨_, rfl, rfl⟩

theorem witness_ChecksumIsTheModularSum : 2 ≤ 13 ∧ 13 < (w2frame 0x42#8).toList.length := by decide

theorem witness_ChecksumIsOrderIndependent :
    (([0x01#8, 0x02#8, 0x03#8].drop 1).take (2 + 1 - 1)).Perm (([0x01#8, 0x03#8, 0x02#8].drop 1).take (2 + 1 - 1)) := by
  decide

/-- A single error at each end of the range; two frames with one payload reordered; two payload positions. -/
theorem witness_ChecksumDetectsSingleByteErrorsOnly :
    frameValid (w2frame 0x42#8) = true
      ∧ (w2frame 0x42#8)[14] ≠ (w2frame 0x43#8)[14]
      ∧ (∀ i : Fin 15, i.val ≠ 14 → (w2frame 0x42#8)[i] = (w2frame 0x43#8)[i])
      ∧ (∀ i : Fin 15, i.val ≠ 2 → (w2frame 0x42#8)[i] = ((w2frame 0x42#8).set 2 0x81#8)[i])
      ∧ (w2frame 0x42#8)[2] ≠ ((w2frame 0x42#8).set 2 0x81#8)[2]
      ∧ (((w2frame 0x42#8).toList.drop 2).take 12).Perm
          (((((w2frame 0x42#8).set 2 0x04#8).set 9 0x80#8).toList.drop 2).take 12) := by decide

/-- One frame per clause of the mode code. -/
theorem witness_SnapshotModeIsTheCodeOfByteThree :
    (0x10#8 : Byte) &&& 0x03#8 = 0x00#8 ∧ (0x11#8 : Byte) &&& 0x03#8 = 0x01#8
      ∧ (0x12#8 : Byte) &&& 0x03#8 = 0x02#8 ∧ (0x13#8 : Byte) &&& 0x03#8 = 0x03#8 := by decide

/-- The ends of each range of target codes. -/
theorem witness_SnapshotTargetIsTheTableOfByteFive :
    (0x01#8 : Byte).toNat < 2 ∧ 2 ≤ (0x02#8 : Byte).toNat ∧ (0x0E#8 : Byte).toNat ≤ 14
      ∧ 15 ≤ (0x0F#8 : Byte).toNat ∧ 15 ≤ (0xFF#8 : Byte).toNat := by decide

theorem witness_TemperatureIsByteTenReadAsTheConsumerReadsIt :
    Config.defaultParams.tempSigned = false ∧ ({ tempSigned := true } : Params).tempSigned = true := by decide

/-- Two frames that differ in unread bits only. -/
theorem witness_UnreadInboundBitsDoNotMatter :
    (w2frame 0x42#8)[2] &&& 0x80#8 = ((w2frame 0#8).set 2 0xFF#8)[2] &&& 0x80#8
      ∧ (w2frame 0x42#8)[3] &&& 0x23#8 = ((w2frame 0#8).set 3 0xDD#8)[3] &&& 0x23#8
      ∧ (w2frame 0x42#8)[4] = (w2frame 0#8)[4] ∧ (w2frame 0x42#8)[5] = (w2frame 0#8)[5]
      ∧ (w2frame 0x42#8)[7] &&& 0x80#8 = ((w2frame 0#8).set 7 0xFF#8)[7] &&& 0x80#8
      ∧ (w2frame 0x42#8)[9] &&& 0x04#8 = ((w2frame 0#8).set 9 0xFF#8)[9] &&& 0x04#8
      ∧ (w2frame 0x42#8)[10] = (w2frame 0#8)[10] := by decide

/-- The ends of each range of targets. -/
theorem witness_EncodedTargetRoundsDownAfterClamping :
    (29#8 : Byte).toNat < 30 ∧ 30 ≤ (30#8 : Byte).toNat ∧ (90#8 : Byte).toNat ≤ 90 ∧ 90 < (91#8 : Byte).toNat := by decide

theorem witness_UnwiredInputsDriveTheDefaults :
    State.reset.Representable ∧ State.reset.params.hasEncoder = true
      ∧ State.reset.ds = portOfWired none none none none := by decide

/-- W6's frame `BB 51 80 32 00 09 …`, whose bytes 2 to 5 the encoder gives back. -/
theorem witness_RoundTripOverTheControllableFields :
    let f : Frame := #v[0xBB#8, 0x51#8, 0x80#8, 0x32#8, 0x00#8, 0x09#8, 0x00#8, 0x00#8, 0x00#8, 0x00#8, 0x00#8, 0x00#8,
      0x00#8, 0x00#8, 0xBB#8]
    frameValid f = true ∧ (decodeSnapshot .clamp 0 f).mode = some .humidity
      ∧ (65#8 : Byte).toNat = (decodeSnapshot .clamp 0 f).target.toNat
      ∧ f[2] = (commandFrame w3)[2] ∧ f[3] = (commandFrame w3)[3] ∧ f[5] = (commandFrame w3)[5] := by decide

/-- FifteenFedBytesGiveExactlyOneFrameEvent, AnyRunOfFirstHeaderBytesSynchronizes: both values of the last byte. -/
theorem witness_frame_reception :
    State.reset.state = .await1 ∧ State.reset.cursor = 0#4
      ∧ payloadSum (Vector.replicate 12 0xFF#8) = 0xF4#8 ∧ payloadSum (Vector.replicate 12 0xFF#8) ≠ 0xF5#8 := by decide

/-- A run whose last event completes no frame, and a frame event of the completing step. -/
theorem witness_FrameEventDescribesTheLastFifteenBytesFed :
    State.reset.state = .await1 ∧ State.reset.cursor = 0#4
      ∧ (∃ t, stateAfter State.reset (feeds [0xBB#8] ++ [feed 0x51#8]) = some t)
      ∧ (bytesFed (feeds [0xBB#8] ++ [feed 0x51#8])).length < 15 := ⟨rfl, rfl, ⟨_, rfl⟩, by decide⟩

/-- IdleEventsDoNotChangeTheOutputs, EncodeEventsDoNotChangeTheFrameEvents. -/
theorem witness_event_insertion :
    State.reset.Representable ∧ outputsFrom State.reset [inputOf .idle, encodeRequest w3] = some [.commandFrame
      #v[0xBB#8, 0x51#8, 0x80#8, 0x32#8, 0x00#8, 0x09#8, 0x00#8, 0x00#8, 0x00#8, 0xBB#8]] := by decide

/-- Two states whose buffers differ at the cursor and above, and in their free contents. -/
theorem witness_UnwrittenBufferBytesAreNeverObserved :
    (collecting 2#4).readBuf 0 = ({ st .collect 2#4 w2buf with bufGen := 1 } : State).readBuf 0
      ∧ (collecting 2#4).readBuf 1 = ({ st .collect 2#4 w2buf with bufGen := 1 } : State).readBuf 1
      ∧ (collecting 2#4).buf ≠ w2buf := by decide

theorem witness_AnyHeaderPairStartsAFrame : (st .await2 0#4 []).Representable ∧ State.reset.Representable := by decide

theorem witness_InstancesShareNothing :
    (System.reset ⟨1, by decide⟩ Config.defaultParams)[0]? = some State.reset
      ∧ (∃ sys', System.stepAt [State.reset, presents atLast 0x142#10] 1 = .next sys')
      ∧ ([State.reset, atLast] : System)[0]? = some State.reset ∧ ([State.reset] : System)[0]? = some State.reset
      ∧ ∃ t, step State.reset = .next t := ⟨rfl, ⟨_, rfl⟩, rfl, rfl, ⟨_, rfl⟩⟩

/-- One step per clause: a rejected frame, ENCODE, and a quiet step, with the strobes that are 0 in it. -/
theorem witness_StrobesAndDataOfEveryStep :
    ((∃ t, step (presents atLast 0x143#10) = .next t) ∧ (presents atLast 0x143#10).presented.isFeed = true
      ∧ frameChecksum (presents atLast 0x143#10).frame ≠ evData (presents atLast 0x143#10).presented.ev)
      ∧ (∃ t c e raw, step (presents atLast 0x143#10) = .next t ∧ t.out = some (.checksumMismatch c e raw))
      ∧ (∃ t, step (presents State.reset 0x300#10) = .next t)
      ∧ ∃ t, step State.reset = .next t ∧ t.out = none ∧ t.ports.frmValid = false ∧ t.ports.errValid = false
          ∧ t.ports.cmdValid = false :=
  ⟨⟨⟨_, rfl⟩, rfl, by decide⟩, ⟨_, _, _, _, rfl, rfl⟩, ⟨_, rfl⟩, _, rfl, rfl, rfl, rfl, rfl⟩

end Sys2Proof.Tests
end

section
/-! The statements of 00_scope.md: the step as decode and run (R11), the parameters and the host's side over one step
(R7), and the instances of a system (R7, 60_exceptions.md R211). -/

namespace Sys2Proof.Machine

/-! ## The presented event -/

theorem State.presented_of_inputs_cons {s : State} {e : Input} {rest : List Input} (h : s.inputs = e :: rest) :
    s.presented = e := by
  simp [State.presented, h]

/-- An empty list presents IDLE with the port as it was (10_state.md R26; log 1). -/
theorem State.presented_of_inputs_nil {s : State} (h : s.inputs = []) :
    s.presented = { ev := encode .idle, ds := s.ds } := by
  simp [State.presented, h]

/-- Settles O6: the step on a decoded word, and the event it takes, list and port. -/
theorem stepRunsTheDecodedInstruction : Obligations.StepRunsTheDecodedInstruction := by
  unfold Obligations.StepRunsTheDecodedInstruction
  refine ⟨fun _ _ hd => step_of_decode hd, fun _ => rfl, fun _ _ _ hs => State.presented_of_inputs_cons hs,
    fun s hs => ?_⟩
  rw [State.presented_of_inputs_nil hs]
  exact ⟨rfl, rfl⟩

/-! ## What no event writes -/

/-- ENCODE answers a next state only with the encoder present and a mode on the port, and then it writes its output
alone (40_control_events.md R101, 44_command_encode.md R171). -/
theorem execEncode_eq_next {s t : State} (h : execEncode s = .next t) :
    ∃ d, s.params.hasEncoder = true ∧ desiredOfPort s.ds = some d ∧
      t = s.output (some (.commandFrame (commandFrame d))) := by
  obtain ⟨-, -, hk⟩ := onRow_eq_next h
  split at hk
  case isTrue henc =>
    split at hk
    case h_1 => cases hk
    case h_2 d hd =>
      cases hk
      exact ⟨d, henc, hd, rfl⟩
  case isFalse => cases hk

/-- No meaning writes the parameters, the host's list or the port: every row is made of register, buffer and output
updates alone. -/
theorem exec_sameOutside {i : Instr} {s t : State} (h : exec i s = .next t) : s.SameOutside t := by
  cases i
  case encode =>
    obtain ⟨d, -, -, rfl⟩ := execEncode_eq_next h
    simp [State.SameOutside]
  all_goals
    obtain ⟨-, -, hk⟩ := onRow_eq_next h
    cases hk
    simp [State.SameOutside]

/-- Settles O12: the step is a meaning run on `takeInput`, and no meaning writes what `takeInput` set. -/
theorem stepFramesTheHostSide : Obligations.StepFramesTheHostSide := by
  unfold Obligations.StepFramesTheHostSide
  intro s t h
  obtain ⟨i, -, hx⟩ := step_eq_next h
  simpa [State.SameOutside] using exec_sameOutside hx

/-! ## Systems of instances -/

@[simp] theorem System.reset_length (n : InstanceCount) (p : Params) : (System.reset n p).length = n.val :=
  List.length_replicate

theorem System.reset_wf (n : InstanceCount) (p : Params) : (System.reset n p).wf := by
  simpa using n.property

/-- Every instance of a system after power-on is in the reset state (60_exceptions.md R211). -/
theorem System.eq_resetWith_of_reset_getElem? {n : InstanceCount} {p : Params} {k : Nat} {s : State}
    (h : (System.reset n p)[k]? = some s) : s = State.resetWith p :=
  List.eq_of_mem_replicate (List.mem_of_getElem? h)

theorem System.stepAt_length {sys sys' : System} {k : Nat} (h : System.stepAt sys k = .next sys') :
    sys'.length = sys.length := by
  obtain ⟨-, rfl⟩ | ⟨_, _, -, -, rfl⟩ := System.stepAt_eq_next h
  · rfl
  · exact List.length_set

/-- The frame of a system's step: every instance but the one that steps. -/
theorem System.stepAt_getElem?_other {sys sys' : System} {j k : Nat} (h : System.stepAt sys k = .next sys')
    (hjk : j ≠ k) : sys'[j]? = sys[j]? := by
  obtain ⟨-, rfl⟩ | ⟨_, _, -, -, rfl⟩ := System.stepAt_eq_next h
  · rfl
  · exact List.getElem?_set_ne hjk.symm

/-- An instance whose own step answers `t` holds `t` after the system's step, whatever the other instances are
(60_exceptions.md R211). -/
theorem System.stepAt_of_step {sys : System} {k : Nat} {s t : State} (hk : sys[k]? = some s)
    (h : step s = .next t) : ∃ sys', System.stepAt sys k = .next sys' ∧ sys'[k]? = some t := by
  have hlt : k < sys.length := (List.getElem?_eq_some_iff.mp hk).1
  exact ⟨sys.set k t, by simp [System.stepAt, hk, h], List.getElem?_set_self hlt⟩

/-- Settles O54: a step of an instance reads that instance's entry of the list and writes it alone. -/
theorem instancesShareNothing : Obligations.InstancesShareNothing := by
  unfold Obligations.InstancesShareNothing
  refine ⟨fun n p => ?_, fun sys sys' k h => ?_, fun sysA sysB k s t hA hB h => ?_⟩
  · exact ⟨System.reset_length n p, System.reset_wf n p, fun _ _ => System.eq_resetWith_of_reset_getElem?⟩
  · exact ⟨System.stepAt_length h, fun _ hj => System.stepAt_getElem?_other h hj⟩
  · obtain ⟨sysA', hstepA, hA'⟩ := System.stepAt_of_step hA h
    obtain ⟨sysB', hstepB, hB'⟩ := System.stepAt_of_step hB h
    exact ⟨sysA', sysB', hstepA, hstepB, hA', hB'⟩

end Sys2Proof.Machine
end

section
/-! The statements of 10_state.md: the invariant (R24, R25), the buffer against the bytes fed (R24), the output events
and ports (R27, R28, R36), and the buffer bytes no output shows (R23, R24). All are read off one inversion of the step,
`step_eq_next_iff`. -/

namespace Sys2Proof

/-! ## Which row an event word spells -/

variable {c : DecodeCtx} {b : Byte} {w : EventWord} {i : Instr}

/-- FEED dispatch answers a row whose condition holds and whose word the byte spells (30_encoding.md R62). -/
theorem selectFeed_eq_ok (h : selectFeed c b = .ok i) :
    rowApplies c i = true ∧ eventWord 0b01#2 b = encode i := by
  unfold selectFeed at h
  split at h <;> split_ifs at h <;> cases h <;> simp_all [encode, Nat.lt_succ_iff]

/-- Where a FEED row's condition holds, dispatch answers that row on the byte of its word. -/
theorem selectFeed_of_rowApplies (ha : rowApplies c i = true) (hk : evKind (encode i) = 0b01#2) :
    selectFeed c (evData (encode i)) = .ok i := by
  cases i <;> simp_all [encode, selectFeed, Nat.lt_succ_iff, Config.HDR0, Config.HDR1]

/-- The decoder answers a row exactly on the row's own word, from a representable pair and where the row's condition
holds (30_encoding.md R61, R62). -/
theorem decode_eq_ok_iff :
    decode c w = .ok i ↔ representable c.state c.cursor = true ∧ rowApplies c i = true ∧ w = encode i := by
  constructor
  · intro h
    have hw := eventWord_evKind_evData w
    unfold decode at h
    split_ifs at h with hr hfeed hdata hidle hreset
    case pos =>
      obtain ⟨ha, he⟩ := selectFeed_eq_ok h
      exact ⟨by simpa using hr, ha, by rw [← he, ← hfeed, hw]⟩
    all_goals
      cases h
      rw [not_not.mp hdata] at hw
      refine ⟨by simpa using hr, rfl, ?_⟩
    · rw [← hw, hidle]; rfl
    · rw [← hw, hreset]; rfl
    · have hencode : evKind w = 0b11#2 := by simpa [hidle, hfeed, hreset] using evKind_cases (evKind w)
      rw [← hw, hencode]; rfl
  · rintro ⟨hr, ha, rfl⟩
    by_cases hk : evKind (encode i) = 0b01#2
    · simp [decode, hr, hk, selectFeed_of_rowApplies ha hk]
    · cases i <;> simp_all [decode, encode]

/-- A cursor of 14 as a number and as a word. -/
theorem cursor_eq_fourteen_iff {v : BitVec 4} : v = 14#4 ↔ v.toNat = 14 :=
  BitVec.toNat_eq

theorem cursor_ne_fourteen_of_feedColData (ha : rowApplies c (.feedColData b) = true) : c.cursor.toNat ≠ 14 := by
  obtain ⟨-, -, hhi⟩ := (rowApplies_feedColData c b).mp ha
  omega

/-- The accepting row, among the rows whose condition holds, is the one of a completing FEED whose byte is the
checksum (30_encoding.md R62). -/
theorem exists_feedColLastOk_iff (ha : rowApplies c i = true) : (∃ b, i = .feedColLastOk b) ↔
    evKind (encode i) = 0b01#2 ∧ c.state = .collect ∧ c.cursor = 14#4 ∧ c.computed = evData (encode i) := by
  rw [cursor_eq_fourteen_iff]
  cases i
  case feedColData b => simp [cursor_ne_fourteen_of_feedColData ha]
  all_goals simp_all [encode]

/-- The rejecting row is the one of a completing FEED with another byte. -/
theorem exists_feedColLastBad_iff (ha : rowApplies c i = true) : (∃ b, i = .feedColLastBad b) ↔
    evKind (encode i) = 0b01#2 ∧ c.state = .collect ∧ c.cursor = 14#4 ∧ c.computed ≠ evData (encode i) := by
  rw [cursor_eq_fourteen_iff]
  cases i
  case feedColData b => simp [cursor_ne_fourteen_of_feedColData ha]
  all_goals simp_all [encode]

/-- ENCODE's kind is no other row's (30_encoding.md R60). -/
theorem eq_encode_of_evKind (hk : evKind (encode i) = 0b11#2) : i = .encode := by
  cases i <;> simp_all [encode]

theorem encode_eq_encodeWord_iff : encode i = 0x300#10 ↔ i = .encode :=
  ⟨fun h => eq_encode_of_evKind (congrArg evKind h), fun h => congrArg encode h⟩

end Sys2Proof

namespace Sys2Proof.Machine

/-! ## What a step can do -/

/-- The meaning of each row as a relation: the row's condition (30_encoding.md R62) and the state it leaves
(40_control_events.md, 41_feed.md). -/
inductive RowStep (s : State) : Instr → State → Prop
  | idle : RowStep s .idle (s.output none)
  | feedA1Hdr0 (hst : s.state = .await1) (hcur : s.cursor = 0#4) :
    RowStep s .feedA1Hdr0 ((s.setState .await2).output none)
  | feedA1Noise (b : Byte) (hst : s.state = .await1) (hcur : s.cursor = 0#4) (hb : b ≠ Config.HDR0) :
    RowStep s (.feedA1Noise b) (s.output none)
  | feedA2Hdr1 (hst : s.state = .await2) (hcur : s.cursor = 0#4) :
    RowStep s .feedA2Hdr1 (((((s.writeBuf 0 Config.HDR0).writeBuf 1 Config.HDR1).setCursor 2#4).setState
      .collect).output none)
  | feedA2Rearm (hst : s.state = .await2) (hcur : s.cursor = 0#4) : RowStep s .feedA2Rearm (s.output none)
  | feedA2Noise (b : Byte) (hst : s.state = .await2) (hcur : s.cursor = 0#4) (h1 : b ≠ Config.HDR1)
    (h0 : b ≠ Config.HDR0) : RowStep s (.feedA2Noise b) ((s.setState .await1).output none)
  | feedColData (b : Byte) (hst : s.state = .collect) (hlo : 2 ≤ s.cursor.toNat) (hhi : s.cursor.toNat ≤ 13) :
    RowStep s (.feedColData b) (((s.writeBuf s.cursor.toNat b).setCursor (s.cursor + 1#4)).output none)
  | feedColLastOk (b : Byte) (hst : s.state = .collect) (hcur : s.cursor.toNat = 14)
    (hsum : frameChecksum s.frame = b) :
    RowStep s (.feedColLastOk b) ((((s.completeFrame b).noteDraw (s.completedFrame b)).output
      (some (.frameAccepted (s.completedFrame b) (s.snapshotOf (s.completedFrame b))))).awaitNextFrame)
  | feedColLastBad (b : Byte) (hst : s.state = .collect) (hcur : s.cursor.toNat = 14)
    (hsum : frameChecksum s.frame ≠ b) :
    RowStep s (.feedColLastBad b) (((s.completeFrame b).output
      (some (.checksumMismatch (frameChecksum s.frame) b (s.completedFrame b)))).awaitNextFrame)
  | reset : RowStep s .reset ((((s.setState .await1).setCursor 0#4).forgetBuf).output none)
  | encode {d : DesiredState} (henc : s.params.hasEncoder = true) (hd : desiredOfPort s.ds = some d) :
    RowStep s .encode (s.output (some (.commandFrame (commandFrame d))))

variable {s t : State} {i : Instr}

theorem RowStep.rowApplies (h : RowStep s i t) : rowApplies s.decodeCtx i = true := by
  cases h <;> simp [*]

/-- R118's event in the terms the row was selected by: the checksum before the last byte's write, and that byte. -/
theorem execFeedColLastBad_eq (b : Byte) (s : State) :
    execFeedColLastBad b s = onRow (.feedColLastBad b) s (.next (((s.completeFrame b).output
      (some (.checksumMismatch (frameChecksum s.frame) b (s.completedFrame b)))).awaitNextFrame)) := by
  have hlast : (s.completedFrame b)[14] = b := by simp [s.completedFrame_getElem]
  simp [execFeedColLastBad, s.completedFrame_checksum, hlast]

/-- From a representable pair a meaning answers what its row leads to. -/
theorem RowStep.exec_eq (h : RowStep s i t) (hr : s.Representable) : exec i s = .next t := by
  have ha := h.rowApplies
  cases h
  case encode d henc hd => exact (onRow_of_applies _ hr ha).trans (by simp [henc, hd])
  case feedColLastBad b _ _ _ => exact (execFeedColLastBad_eq b s).trans (onRow_of_applies _ hr ha)
  all_goals exact onRow_of_applies _ hr ha

/-- A meaning that answers a next state took its row's step from a representable pair. -/
theorem rowStep_of_exec (h : exec i s = .next t) : s.Representable ∧ RowStep s i t := by
  cases i
  case encode =>
    obtain ⟨d, henc, hd, rfl⟩ := execEncode_eq_next h
    exact ⟨(onRow_eq_next h).1, .encode henc hd⟩
  case feedColLastBad b =>
    obtain ⟨hr, ha, hk⟩ := onRow_eq_next ((execFeedColLastBad_eq b s).symm.trans h)
    obtain ⟨hst, hcur, hsum⟩ := (rowApplies_feedColLastBad _ _).mp ha
    cases hk
    exact ⟨hr, .feedColLastBad b hst hcur hsum⟩
  all_goals
    obtain ⟨hr, ha, hk⟩ := onRow_eq_next h
    cases hk
    exact ⟨hr, by constructor <;> simp_all⟩

/-- The step, whole: the presented word is a row's, and the row's step is taken from a representable pair. -/
theorem step_eq_next_iff :
    step s = .next t ↔ s.Representable ∧ ∃ i, s.presented.ev = encode i ∧ RowStep s.takeInput i t := by
  constructor
  · intro h
    obtain ⟨i, hd, hx⟩ := step_eq_next h
    exact ⟨(rowStep_of_exec hx).1, i, (decode_eq_ok_iff.mp hd).2.2, (rowStep_of_exec hx).2⟩
  · rintro ⟨hr, i, hev, hrow⟩
    rw [step_of_decode (decode_eq_ok_iff.mpr ⟨hr, hrow.rowApplies, hev⟩)]
    exact hrow.exec_eq hr

/-! ## The invariant -/

/-- Below 14 the cursor counts up without wrapping. -/
theorem toNat_cursor_add_one {c : BitVec 4} (h : c.toNat ≤ 13) : (c + 1#4).toNat = c.toNat + 1 := by
  simp
  omega

/-- Every row leads to a representable pair (10_state.md R25). -/
theorem RowStep.representable (h : RowStep s i t) (hr : s.Representable) : t.Representable := by
  cases h
  case idle | feedA1Noise | feedA2Rearm | encode => exact hr
  case feedColData b hst hlo hhi =>
    simp [State.Representable, State.isRepresentable, representable, hst, toNat_cursor_add_one hhi]
    omega
  all_goals simp_all [State.Representable, State.isRepresentable, representable]

/-- Every row keeps the buffer's list in canonical form, since a buffer write does (20_memory.md R40). -/
theorem RowStep.bufCanonical (h : RowStep s i t) (hw : Memory.wf s.buf = true) : Memory.wf t.buf = true := by
  cases h
  case feedA2Hdr1 => exact State.writeBuf_wf _ _ _ (s.writeBuf_wf _ _ hw)
  case feedColData b _ _ _ => exact s.writeBuf_wf _ _ hw
  case feedColLastOk b _ _ _ | feedColLastBad b _ _ _ => simpa [State.completeFrame] using s.writeBuf_wf 14 b hw
  case reset => rfl
  all_goals exact hw

/-- The header's two writes put the header in bytes 0 and 1 (41_feed.md R113). -/
theorem State.readBuf_writeHeader (s : State) :
    ((s.writeBuf 0 Config.HDR0).writeBuf 1 Config.HDR1).readBuf 0 = Config.HDR0 ∧
      ((s.writeBuf 0 Config.HDR0).writeBuf 1 Config.HDR1).readBuf 1 = Config.HDR1 := by
  rw [State.readBuf_writeBuf_other _ _ (by decide)]
  exact ⟨s.readBuf_writeBuf_same _ (by decide), State.readBuf_writeBuf_same _ _ (by decide)⟩

/-- The header is written as collecting begins, and no row that goes on collecting writes below index 2
(10_state.md R24). -/
theorem RowStep.headerHeld (h : RowStep s i t) (hh : s.HeaderHeld) : t.HeaderHeld := by
  cases h
  case idle | feedA1Noise | feedA2Rearm | encode => exact hh
  case feedA2Hdr1 => exact fun _ => s.readBuf_writeHeader
  case feedColData b hst hlo _ =>
    intro _
    simpa [s.readBuf_writeBuf_other b (show 0 ≠ s.cursor.toNat by omega),
      s.readBuf_writeBuf_other b (show 1 ≠ s.cursor.toNat by omega)] using hh hst
  all_goals exact fun hst => by cases hst

/-- Settles O13: each row keeps each part of the invariant, and a step is a row's step on `takeInput`. -/
theorem stepKeepsTheInvariant : Obligations.StepKeepsTheInvariant := by
  unfold Obligations.StepKeepsTheInvariant
  rintro s t ⟨hr, hw, hh⟩ h
  obtain ⟨-, i, -, hrow⟩ := step_eq_next_iff.mp h
  exact ⟨hrow.representable hr, hrow.bufCanonical hw, hrow.headerHeld hh⟩

/-- Settles O14: AWAIT1 with cursor 0 and nothing listed in the buffer. -/
theorem invariantHoldsAtReset : Obligations.InvariantHoldsAtReset := by
  unfold Obligations.InvariantHoldsAtReset
  have hreset : ∀ p : Params, (State.resetWith p).Inv := fun p =>
    { representable := rfl, bufCanonical := rfl, header := fun h => by cases h }
  exact ⟨hreset _, hreset⟩


/-! ## Output events -/

theorem RowStep.out_frameAccepted_iff (h : RowStep s i t) :
    (∃ f snap, t.out = some (.frameAccepted f snap)) ↔ ∃ b, i = .feedColLastOk b := by
  cases h <;> simp

theorem RowStep.out_checksumMismatch_iff (h : RowStep s i t) :
    (∃ c e raw, t.out = some (.checksumMismatch c e raw)) ↔ ∃ b, i = .feedColLastBad b := by
  cases h <;> simp

theorem RowStep.out_commandFrame_iff (h : RowStep s i t) :
    (∃ cmd, t.out = some (.commandFrame cmd)) ↔ i = .encode := by
  cases h <;> simp

/-- Settles O31: each kind of event is one row's, and each of those rows is one of the events presented. -/
theorem outputEventsComeOnlyFromTheirRows : Obligations.OutputEventsComeOnlyFromTheirRows := by
  unfold Obligations.OutputEventsComeOnlyFromTheirRows
  intro s t h
  obtain ⟨-, i, hev, hrow⟩ := step_eq_next_iff.mp h
  rw [Input.isFeed, beq_iff_eq, hev]
  exact ⟨hrow.out_frameAccepted_iff.trans (exists_feedColLastOk_iff hrow.rowApplies),
    hrow.out_checksumMismatch_iff.trans (exists_feedColLastBad_iff hrow.rowApplies),
    hrow.out_commandFrame_iff.trans encode_eq_encodeWord_iff.symm⟩

/-! ## Output ports -/

/-- No data without a strobe (10_state.md R28, R36). -/
theorem portsOf_data_eq_none (e : Option OutputEvent) :
    ((portsOf e).frmValid = false → (portsOf e).frmData = none ∧ (portsOf e).snapPower = none ∧
      (portsOf e).snapFanHigh = none ∧ (portsOf e).snapCompressor = none ∧ (portsOf e).snapTankFull = none ∧
      (portsOf e).snapMode = none ∧ (portsOf e).snapModeValid = none ∧ (portsOf e).snapHumidity = none ∧
      (portsOf e).snapTemperature = none ∧ (portsOf e).snapTarget = none) ∧
    ((portsOf e).errValid = false →
      (portsOf e).errComputed = none ∧ (portsOf e).errExpected = none ∧ (portsOf e).errRaw = none) ∧
    ((portsOf e).cmdValid = false → (portsOf e).cmdData = none) := by
  rcases e with _ | ⟨_ | _ | _⟩ <;> simp [portsOf, OutPorts.quiet]

/-- The event of FEED.COL_LAST_BAD (41_feed.md R118). -/
theorem RowStep.out_feedColLastBad {b : Byte} (h : RowStep s (.feedColLastBad b) t) :
    t.out = some (.checksumMismatch (frameChecksum s.frame) b (s.completedFrame b)) := by
  cases h
  rfl

/-- Settles O55: the ports are a function of the step's event, and the event of a rejecting FEED or of ENCODE is its
row's. -/
theorem strobesAndDataOfEveryStep : Obligations.StrobesAndDataOfEveryStep := by
  unfold Obligations.StrobesAndDataOfEveryStep
  intro s t h
  obtain ⟨-, i, hev, hrow⟩ := step_eq_next_iff.mp h
  refine ⟨fun hfeed hst hcur hne => ?_, fun c e raw hout => ?_, fun henc => ?_, fun hout => ?_,
    portsOf_data_eq_none t.out⟩
  · rw [Input.isFeed, beq_iff_eq, hev] at hfeed
    rw [hev] at hne ⊢
    obtain ⟨b, rfl⟩ := (exists_feedColLastBad_iff hrow.rowApplies).mpr ⟨hfeed, hst, hcur, hne⟩
    have hb : evData (encode (.feedColLastBad b)) = b := evData_eventWord _ b
    rw [State.ports, hrow.out_feedColLastBad, hb]
    exact ⟨rfl, rfl, rfl, rfl, rfl, _, rfl, s.takeInput.completedFrame_getElem b⟩
  · rw [State.ports, hout]
    exact ⟨rfl, rfl, rfl, rfl⟩
  · obtain ⟨cmd, hout⟩ := hrow.out_commandFrame_iff.mpr (encode_eq_encodeWord_iff.mp (hev.symm.trans henc))
    rw [State.ports, hout]
    exact ⟨rfl, rfl, rfl, cmd, rfl, rfl⟩
  · rw [State.ports, hout]
    exact ⟨rfl, rfl, rfl⟩

/-! ## The bytes fed and the bytes held -/

section Fed

variable {ins : List Input} {e : Input}

/-- RESET forgets the bytes fed so far, FEED adds its byte, and IDLE and ENCODE leave them (41_feed.md R121). -/
theorem bytesFed_concat (ins : List Input) (e : Input) : bytesFed (ins ++ [e]) =
    if e.isReset then [] else if e.isFeed then bytesFed ins ++ [evData e.ev] else bytesFed ins := by
  simp [bytesFed]

theorem bytesFed_concat_of_feed {b : Byte} (h : e.ev = eventWord 0b01#2 b) :
    bytesFed (ins ++ [e]) = bytesFed ins ++ [b] := by
  simp [bytesFed_concat, Input.isReset, Input.isFeed, h]

theorem bytesFed_concat_of_idle (h : e.ev = encode .idle) : bytesFed (ins ++ [e]) = bytesFed ins := by
  simp [bytesFed_concat, Input.isReset, Input.isFeed, h, encode]

theorem bytesFed_concat_of_encode (h : e.ev = encode .encode) : bytesFed (ins ++ [e]) = bytesFed ins := by
  simp [bytesFed_concat, Input.isReset, Input.isFeed, h, encode]

theorem step_of_stateAfter_singleton (h : stateAfter s [e] = some t) : step (s.withInputs [e]) = .next t := by
  rw [stateAfter_cons] at h
  split at h
  case h_1 u hu =>
    have hnil : u.inputs = [] := step_inputs hu
    have hself : u.withInputs [] = u := by rw [← hnil, State.withInputs_self]
    rw [stateAfter_nil, hself] at h
    cases h
    exact hu
  all_goals cases h

/-- A property of the events so far and the state they lead to holds of every run that is not refused, if it holds
before the first event and every step keeps it. -/
theorem stateAfter_induction {P : List Input → State → Prop} (h0 : P [] (s.withInputs []))
    (hstep : ∀ ins e u t, P ins u → step (u.withInputs [e]) = .next t → P (ins ++ [e]) t)
    (h : stateAfter s ins = some t) : P ins t := by
  induction ins using List.reverseRecOn generalizing t with
  | nil =>
    cases h
    exact h0
  | append_singleton ins e ih =>
    rw [stateAfter_append, Option.bind_eq_some_iff] at h
    obtain ⟨u, hu, hlast⟩ := h
    exact hstep ins e u t (ih hu) (step_of_stateAfter_singleton hlast)

/-- What the parser has seen of the frame it is in: nothing, the first header byte, or what the buffer holds. -/
def State.seenBytes (s : State) : List Byte :=
  match s.state with
  | .await1 => []
  | .await2 => [Config.HDR0]
  | .collect => s.bytesHeld

theorem State.seenBytes_await1 (h : s.state = .await1) : s.seenBytes = [] := by
  simp [State.seenBytes, h]

theorem State.seenBytes_await2 (h : s.state = .await2) : s.seenBytes = [Config.HDR0] := by
  simp [State.seenBytes, h]

theorem State.seenBytes_collect (h : s.state = .collect) : s.seenBytes = s.bytesHeld := by
  simp [State.seenBytes, h]

theorem State.bytesHeld_writeHeader (s : State) :
    (((s.writeBuf 0 Config.HDR0).writeBuf 1 Config.HDR1).setCursor 2#4).bytesHeld = [Config.HDR0] ++ [Config.HDR1] := by
  obtain ⟨h0, h1⟩ := s.readBuf_writeHeader
  show [((s.writeBuf 0 Config.HDR0).writeBuf 1 Config.HDR1).readBuf 0,
    ((s.writeBuf 0 Config.HDR0).writeBuf 1 Config.HDR1).readBuf 1] = _
  rw [h0, h1]
  rfl

/-- A byte stored at the cursor comes after the bytes held (41_feed.md R116). -/
theorem State.bytesHeld_store (s : State) (b : Byte) (h : s.cursor.toNat ≤ 13) :
    ((s.writeBuf s.cursor.toNat b).setCursor (s.cursor + 1#4)).bytesHeld = s.bytesHeld ++ [b] := by
  have hbelow : ∀ j ∈ List.range s.cursor.toNat, (s.writeBuf s.cursor.toNat b).readBuf j = s.readBuf j :=
    fun j hj => s.readBuf_writeBuf_other b (List.mem_range.mp hj).ne
  have hlast : (s.writeBuf s.cursor.toNat b).readBuf s.cursor.toNat = b :=
    s.readBuf_writeBuf_same b (Nat.lt_of_le_of_lt h (by decide))
  show (List.range (s.cursor + 1#4).toNat).map (s.writeBuf s.cursor.toNat b).readBuf = _
  rw [toNat_cursor_add_one h, List.range_succ, List.map_append, List.map_congr_left hbelow, List.map_singleton, hlast]
  rfl

/-- Whatever the row, the bytes seen go on being the last ones fed. -/
theorem RowStep.seenBytes_suffix (h : RowStep s i t) (he : e.ev = Sys2Proof.encode i)
    (hs : s.seenBytes <:+ bytesFed ins) : t.seenBytes <:+ bytesFed (ins ++ [e]) := by
  cases h with
  | idle => rwa [bytesFed_concat_of_idle he]
  | encode => rwa [bytesFed_concat_of_encode he]
  | feedA1Hdr0 => exact bytesFed_concat_of_feed he ▸ List.suffix_append _ _
  | feedA2Rearm hst =>
    have ht : (s.output none).seenBytes = [Config.HDR0] := State.seenBytes_await2 hst
    rw [ht, bytesFed_concat_of_feed he]
    exact List.suffix_append _ _
  | feedA2Hdr1 hst =>
    rw [State.seenBytes_await2 hst] at hs
    rw [bytesFed_concat_of_feed he, State.seenBytes_collect rfl]
    exact s.bytesHeld_writeHeader ▸ List.suffix_append_self_iff.mpr hs
  | feedColData b hst _ hhi =>
    rw [State.seenBytes_collect hst] at hs
    rw [bytesFed_concat_of_feed he, State.seenBytes_collect (by simpa using hst)]
    exact s.bytesHeld_store b hhi ▸ List.suffix_append_self_iff.mpr hs
  | feedA1Noise b hst => exact State.seenBytes_await1 hst ▸ List.nil_suffix
  | feedA2Noise | feedColLastOk | feedColLastBad | reset => exact List.nil_suffix

/-- What a run from AWAIT1 keeps, with `fed` the bytes fed since the most recent RESET: the state-only invariant, and
that the bytes seen are the last of them (10_state.md R24). -/
structure State.Tracks (s : State) (fed : List Byte) : Prop where
  representable : s.Representable
  header : s.HeaderHeld
  seenBytes : s.seenBytes <:+ fed

theorem State.tracks_await1 (hst : s.state = .await1) (hcur : s.cursor = 0#4) (fed : List Byte) : s.Tracks fed where
  representable := by simp [State.Representable, State.isRepresentable, Sys2Proof.representable, hst, hcur]
  header := fun h => by simp [hst] at h
  seenBytes := State.seenBytes_await1 hst ▸ List.nil_suffix

theorem State.Tracks.step {u : State} (hu : u.Tracks (bytesFed ins)) (h : step (u.withInputs [e]) = .next t) :
    t.Tracks (bytesFed (ins ++ [e])) := by
  obtain ⟨-, i, hev, hrow⟩ := step_eq_next_iff.mp h
  exact ⟨hrow.representable hu.representable, hrow.headerHeld hu.header, hrow.seenBytes_suffix hev hu.seenBytes⟩

theorem tracks_of_stateAfter (hst : s.state = .await1) (hcur : s.cursor = 0#4) (h : stateAfter s ins = some t) :
    t.Tracks (bytesFed ins) :=
  stateAfter_induction (P := fun ins t => t.Tracks (bytesFed ins))
    (State.tracks_await1 (s := s.withInputs []) hst hcur _) (fun _ _ _ _ hu hstep => hu.step hstep) h

end Fed

/-- Settles O15: every run from AWAIT1 tracks the bytes fed, and while collecting the bytes seen are the bytes held. -/
theorem bufferHoldsTheBytesFed : Obligations.BufferHoldsTheBytesFed := by
  unfold Obligations.BufferHoldsTheBytesFed
  intro s t ins hst hcur h hcol
  obtain ⟨hr, hheader, hfed⟩ := tracks_of_stateAfter hst hcur h
  obtain ⟨h0, h1⟩ := hheader hcol
  have hcursor : representable .collect t.cursor = true := hcol ▸ hr
  rw [State.seenBytes_collect hcol] at hfed
  have hbounds := representable_collect hcursor
  exact ⟨h0, h1, by omega, by omega, hfed⟩

/-! ## Buffer bytes at or above the cursor -/

/-- Two states agree on everything a step reads, and on the buffer below index `n`. The output and the host's side stay
out of it: a step overwrites the one and is given the other. -/
structure State.AgreeBelow (n : Nat) (s t : State) : Prop where
  state : s.state = t.state
  cursor : s.cursor = t.cursor
  params : s.params = t.params
  draws : s.draws = t.draws
  readBuf : ∀ j < n, s.readBuf j = t.readBuf j

namespace State.AgreeBelow

variable {n m : Nat}

theorem symm (h : AgreeBelow n s t) : AgreeBelow n t s :=
  ⟨h.state.symm, h.cursor.symm, h.params.symm, h.draws.symm, fun j hj => (h.readBuf j hj).symm⟩

theorem mono (h : AgreeBelow n s t) (hm : m ≤ n) : AgreeBelow m s t :=
  { h with readBuf := fun j hj => h.readBuf j (by omega) }

theorem output (h : AgreeBelow n s t) (e : Option OutputEvent) : AgreeBelow n (s.output e) (t.output e) :=
  { h with }

theorem setState (h : AgreeBelow n s t) (p : ParserState) : AgreeBelow n (s.setState p) (t.setState p) :=
  { h with state := rfl }

theorem setCursor (h : AgreeBelow n s t) (v : BitVec 4) : AgreeBelow n (s.setCursor v) (t.setCursor v) :=
  { h with cursor := rfl }

theorem takeInput (h : AgreeBelow n s t) : AgreeBelow n s.takeInput t.takeInput :=
  { h with }

theorem withInputs (h : AgreeBelow n s t) (l : List Input) : AgreeBelow n (s.withInputs l) (t.withInputs l) :=
  { h with }

/-- Forgotten contents need not agree anywhere. -/
theorem forgetBuf (h : AgreeBelow n s t) : AgreeBelow 0 s.forgetBuf t.forgetBuf :=
  { h with readBuf := fun _ hj => absurd hj (Nat.not_lt_zero _) }

/-- Writing the first byte not agreed on extends the agreement by it. -/
theorem writeBuf (h : AgreeBelow n s t) (hn : n < 15) (v : Byte) :
    AgreeBelow (n + 1) (s.writeBuf n v) (t.writeBuf n v) where
  state := by simpa using h.state
  cursor := by simpa using h.cursor
  params := by simpa using h.params
  draws := by simpa using h.draws
  readBuf := by
    intro j hj
    by_cases hjn : j = n
    · rw [hjn, s.readBuf_writeBuf_same v hn, t.readBuf_writeBuf_same v hn]
    · rw [s.readBuf_writeBuf_other v hjn, t.readBuf_writeBuf_other v hjn]
      exact h.readBuf j (by omega)

theorem completeFrame (h : AgreeBelow 14 s t) (b : Byte) : AgreeBelow 15 (s.completeFrame b) (t.completeFrame b) :=
  (h.writeBuf (by decide) b).setCursor _

theorem noteDraw (h : AgreeBelow n s t) (f : Frame) : AgreeBelow n (s.noteDraw f) (t.noteDraw f) where
  state := by simpa using h.state
  cursor := by simpa using h.cursor
  params := by simpa using h.params
  draws := by simp [h.params, h.draws]
  readBuf := by simpa using h.readBuf

theorem awaitNextFrame (h : AgreeBelow n s t) : AgreeBelow 0 s.awaitNextFrame t.awaitNextFrame :=
  ((h.setCursor 0#4).setState .await1).mono (Nat.zero_le n)

theorem frame_eq (h : AgreeBelow 15 s t) : s.frame = t.frame :=
  State.frame_congr h.readBuf

theorem completedFrame_eq (h : AgreeBelow 14 s t) (b : Byte) : s.completedFrame b = t.completedFrame b :=
  (h.completeFrame b).frame_eq

/-- The checksum is taken over bytes 2 to 13. -/
theorem frameChecksum_eq (h : AgreeBelow 14 s t) : frameChecksum s.frame = frameChecksum t.frame :=
  frameChecksum_congr fun j hj _ h13 => by
    rw [State.frame_getElem, State.frame_getElem, h.readBuf j (by omega)]

theorem snapshotOf_eq (h : AgreeBelow n s t) (f : Frame) : s.snapshotOf f = t.snapshotOf f := by
  rw [State.snapshotOf, State.snapshotOf, h.params, h.draws]

end State.AgreeBelow

/-- Two states that agree below the cursor, with the same port sample, take the same row's step, with the same output,
to states that again agree below the cursor: a row reads no byte at or above it. -/
theorem RowStep.simulate {s' : State} (h : RowStep s i s') (ha : s.AgreeBelow s.cursor.toNat t) (hds : s.ds = t.ds) :
    ∃ t', RowStep t i t' ∧ s'.out = t'.out ∧ s'.AgreeBelow s'.cursor.toNat t' := by
  cases h with
  | idle => exact ⟨_, .idle, rfl, ha.output none⟩
  | encode henc hd => exact ⟨_, .encode (ha.params ▸ henc) (hds ▸ hd), rfl, ha.output _⟩
  | reset => exact ⟨_, .reset, rfl, ((ha.setState _).setCursor _).forgetBuf.output none⟩
  | feedA1Hdr0 hst hcur =>
    exact ⟨_, .feedA1Hdr0 (ha.state ▸ hst) (ha.cursor ▸ hcur), rfl, (ha.setState _).output none⟩
  | feedA1Noise b hst hcur hb =>
    exact ⟨_, .feedA1Noise b (ha.state ▸ hst) (ha.cursor ▸ hcur) hb, rfl, ha.output none⟩
  | feedA2Rearm hst hcur => exact ⟨_, .feedA2Rearm (ha.state ▸ hst) (ha.cursor ▸ hcur), rfl, ha.output none⟩
  | feedA2Noise b hst hcur h1 h0 =>
    exact ⟨_, .feedA2Noise b (ha.state ▸ hst) (ha.cursor ▸ hcur) h1 h0, rfl, (ha.setState _).output none⟩
  | feedA2Hdr1 hst hcur =>
    have hheader := ((ha.mono (Nat.zero_le _)).writeBuf (by decide) Config.HDR0).writeBuf (by decide) Config.HDR1
    exact ⟨_, .feedA2Hdr1 (ha.state ▸ hst) (ha.cursor ▸ hcur), rfl,
      ((hheader.setCursor 2#4).setState .collect).output none⟩
  | feedColData b hst hlo hhi =>
    have hstore := ((ha.writeBuf (by omega) b).setCursor (s.cursor + 1#4)).output none
    refine ⟨_, .feedColData b (ha.state ▸ hst) (ha.cursor ▸ hlo) (ha.cursor ▸ hhi), rfl, ?_⟩
    rw [← toNat_cursor_add_one hhi] at hstore
    exact ha.cursor ▸ hstore
  | feedColLastOk b hst hcur hsum =>
    rw [hcur] at ha
    refine ⟨_, .feedColLastOk b (ha.state ▸ hst) (ha.cursor ▸ hcur) (ha.frameChecksum_eq ▸ hsum), ?_, ?_⟩
    · simp [ha.completedFrame_eq, ha.snapshotOf_eq]
    · rw [ha.completedFrame_eq, ha.snapshotOf_eq]
      exact (((ha.completeFrame b).noteDraw _).output _).awaitNextFrame
  | feedColLastBad b hst hcur hsum =>
    rw [hcur] at ha
    refine ⟨_, .feedColLastBad b (ha.state ▸ hst) (ha.cursor ▸ hcur) (ha.frameChecksum_eq ▸ hsum), ?_, ?_⟩
    · simp [ha.completedFrame_eq, ha.frameChecksum_eq]
    · rw [ha.completedFrame_eq, ha.frameChecksum_eq]
      exact ((ha.completeFrame b).output _).awaitNextFrame

/-- The simulation for the step, on two states that are presented the same input. -/
theorem step_simulate {s' : State} (h : step s = .next s') (ha : s.AgreeBelow s.cursor.toNat t)
    (hp : s.presented = t.presented) :
    ∃ t', step t = .next t' ∧ s'.out = t'.out ∧ s'.AgreeBelow s'.cursor.toNat t' := by
  obtain ⟨hr, i, hev, hrow⟩ := step_eq_next_iff.mp h
  obtain ⟨t', hrow', hout, ha'⟩ := hrow.simulate ha.takeInput (congrArg Input.ds hp)
  have hr' : t.Representable := by
    rwa [State.Representable, State.isRepresentable, ← ha.state, ← ha.cursor]
  exact ⟨t', step_eq_next_iff.mpr ⟨hr', i, hp ▸ hev, hrow'⟩, hout, ha'⟩

/-- States that agree below the cursor are observed alike for as long as the host presents the same events to both. -/
theorem observeSteps_eq_of_agreeBelow (n k : Nat) (ha : s.AgreeBelow s.cursor.toNat t) (hin : s.inputs = t.inputs)
    (hn : n ≤ s.inputs.length) : observeSteps n k s = observeSteps n k t := by
  induction n generalizing k s t with
  | zero => rfl
  | succ n ih =>
    obtain ⟨e, rest, hs⟩ : ∃ e rest, s.inputs = e :: rest := List.exists_cons_of_length_pos (by omega)
    have hp : s.presented = t.presented :=
      (State.presented_of_inputs_cons hs).trans (State.presented_of_inputs_cons (hin ▸ hs)).symm
    cases hstep : step s with
    | next s' =>
      obtain ⟨t', ht', hout, ha'⟩ := step_simulate hstep ha hp
      have hin' : s'.inputs = t'.inputs := by rw [step_inputs hstep, step_inputs ht', hin]
      have hn' : n ≤ s'.inputs.length := by rw [step_inputs hstep, List.length_tail]; omega
      simp only [observeSteps, hstep, ht', hout, fun k => ih k ha' hin' hn']
    | fault r => cases r
    | refused r =>
      cases htstep : step t with
      | next t' =>
        obtain ⟨s', hs', -⟩ := step_simulate htstep (ha.cursor ▸ ha.symm) hp.symm
        cases hstep.symm.trans hs'
      | fault r => cases r
      | refused r' => simp only [observeSteps, hstep, htstep]

/-- Settles O51: agreement below the cursor is a simulation in both directions, and it is all the hypotheses say. -/
theorem unwrittenBufferBytesAreNeverObserved : Obligations.UnwrittenBufferBytesAreNeverObserved := by
  unfold Obligations.UnwrittenBufferBytesAreNeverObserved
  intro s t ins hst hcur hp hd hbuf
  have ha : s.AgreeBelow s.cursor.toNat t := ⟨hst, hcur, hp, hd, hbuf⟩
  exact observeSteps_eq_of_agreeBelow ins.length 1 (ha.withInputs ins) rfl le_rfl

end Sys2Proof.Machine
end

section
/-! The statement of 20_memory.md: IDLE events among the others do not change the outputs (R52). The outputs of a list
of events are taken apart at its first event by `outputsFrom_cons`. -/

namespace Sys2Proof.Machine

variable {s t : State} {e : Input} {rest : List Input}

/-! ## The outputs of a run, event by event -/

theorem stateAfter_singleton_eq_some_iff : stateAfter s [e] = some t ↔ step (s.withInputs [e]) = .next t := by
  refine ⟨step_of_stateAfter_singleton, fun h => ?_⟩
  have hself : t.withInputs [] = t := by
    have hnil : t.inputs = [] := step_inputs h
    rw [← hnil, State.withInputs_self]
  simp only [stateAfter_cons, h, stateAfter_nil, hself]

/-- The first step's output, if it has one, stands in front of the outputs of the steps after it. -/
theorem observeSteps_outputs_succ {n k : Nat} (h : step s = .next t) :
    (observeSteps (n + 1) k s).map (List.map Prod.snd) =
      ((observeSteps n (k + 1) t).map (List.map Prod.snd)).map (t.out.toList ++ ·) := by
  cases hout : t.out <;> simp [observeSteps, h, hout, Function.comp_def]

theorem observeSteps_succ_of_refused {n k : Nat} {r : Refusal} (h : step s = .refused r) :
    observeSteps (n + 1) k s = none := by
  simp only [observeSteps, h]

/-- The output events do not depend on the index the steps are counted from. -/
theorem observeSteps_outputs_index (n k k' : Nat) (s : State) :
    (observeSteps n k s).map (List.map Prod.snd) = (observeSteps n k' s).map (List.map Prod.snd) := by
  induction n generalizing k k' s with
  | zero => rfl
  | succ n ih =>
    cases hstep : step s with
    | next t => rw [observeSteps_outputs_succ hstep, observeSteps_outputs_succ hstep, ih (k + 1) (k' + 1) t]
    | fault r => cases r
    | refused r => rw [observeSteps_succ_of_refused hstep, observeSteps_succ_of_refused hstep]

/-- The outputs of a run are the output of its first step, if it has one, and then those of the rest from the state that
step leaves; a run whose first step is refused has none (70_reset_and_hazards.md R223). -/
theorem outputsFrom_cons (s : State) (e : Input) (rest : List Input) :
    outputsFrom s (e :: rest) =
      (stateAfter s [e]).bind fun t => (outputsFrom t rest).map (t.out.toList ++ ·) := by
  cases hafter : stateAfter s [e] with
  | some t =>
    have hstep := step_withInputs rest (stateAfter_singleton_eq_some_iff.mp hafter)
    calc outputsFrom s (e :: rest)
        = ((observeSteps rest.length 2 (t.withInputs rest)).map (List.map Prod.snd)).map (t.out.toList ++ ·) :=
          observeSteps_outputs_succ hstep
      _ = (outputsFrom t rest).map (t.out.toList ++ ·) := by
          rw [observeSteps_outputs_index rest.length 2 1]
          rfl
  | none =>
    cases hstep : step (s.withInputs (e :: rest)) with
    | next t =>
      have hsome := stateAfter_singleton_eq_some_iff.mpr (step_withInputs [] hstep)
      cases hafter.symm.trans hsome
    | fault r => cases r
    | refused r => exact congrArg (Option.map _) (observeSteps_succ_of_refused hstep)

/-! ## IDLE -/

/-- From a representable state IDLE is taken and writes nothing but the output (40_control_events.md R100). -/
theorem stateAfter_idle (hr : s.Representable) (he : e.isIdle = true) :
    stateAfter s [e] = some ((s.withInputs [e]).takeInput.output none) :=
  stateAfter_singleton_eq_some_iff.mpr (step_eq_next_iff.mpr ⟨hr, .idle, beq_iff_eq.mp he, .idle⟩)

/-- A leading IDLE has no output, and the port sample it leaves behind is not read by any later event. -/
theorem outputsFrom_cons_idle (hr : s.Representable) (he : e.isIdle = true) :
    outputsFrom s (e :: rest) = outputsFrom s rest := by
  have hobs : observeFrom ((s.withInputs [e]).takeInput.output none) rest = observeFrom s rest :=
    unwrittenBufferBytesAreNeverObserved _ _ rest rfl rfl rfl rfl fun _ _ => rfl
  rw [outputsFrom_cons, stateAfter_idle hr he]
  simp [outputsFrom, hobs, Function.comp_def]

/-- An event leads from a representable state to a representable one (10_state.md R25). -/
theorem representable_of_stateAfter_singleton (hr : s.Representable) (h : stateAfter s [e] = some t) :
    t.Representable := by
  obtain ⟨-, i, -, hrow⟩ := step_eq_next_iff.mp (stateAfter_singleton_eq_some_iff.mp h)
  exact hrow.representable hr

/-- Settles O49, by induction on the events: an IDLE in front can be dropped, and any other event in front takes the
same step on both sides, or is refused on both. -/
theorem idleEventsDoNotChangeTheOutputs : Obligations.IdleEventsDoNotChangeTheOutputs := by
  unfold Obligations.IdleEventsDoNotChangeTheOutputs
  intro s ins hr
  induction ins generalizing s with
  | nil => rfl
  | cons e rest ih =>
    cases he : e.isIdle with
    | true =>
      rw [outputsFrom_cons_idle hr he, List.filter_cons_of_neg (by simp [he])]
      exact ih s hr
    | false =>
      rw [List.filter_cons_of_pos (by simp [he]), outputsFrom_cons, outputsFrom_cons]
      cases hafter : stateAfter s [e] with
      | none => rfl
      | some t =>
        have hrest := ih t (representable_of_stateAfter_singleton hr hafter)
        simp only [Option.bind_some, hrest]

end Sys2Proof.Machine
end

section
/-! The statements of 30_encoding.md: the event words and the rows they spell (R60 to R64), and the bits of either frame
format that carry no field (R67, R68). The words are read by `decode_eq_ok_iff`, which says when the decoder answers a
row. -/

namespace Sys2Proof

variable {c : DecodeCtx} {b : Byte} {w : EventWord} {i : Instr}

/-! ## Event words under a mask -/

/-- A mask acts on the two fields of a word one by one (30_encoding.md R60). -/
theorem and_eventWord (w : EventWord) (k : BitVec 2) (m : Byte) :
    w &&& eventWord k m = eventWord (evKind w &&& k) (evData w &&& m) := by
  conv_lhs => rw [← eventWord_evKind_evData w]
  exact BitVec.and_append

theorem eventWord_inj {k k' : BitVec 2} {m m' : Byte} : eventWord k m = eventWord k' m' ↔ k = k' ∧ m = m' := by
  constructor
  · intro h
    exact ⟨by simpa using congrArg evKind h, by simpa using congrArg evData h⟩
  · rintro ⟨rfl, rfl⟩
    rfl

/-- The mask of a fixed word leaves the whole word. -/
theorem and_wordMask (w : EventWord) : w &&& 0x3FF#10 = w :=
  BitVec.and_allOnes

theorem and_kindMask_eq_feed_iff : w &&& 0x300#10 = 0x100#10 ↔ evKind w = 0b01#2 := by
  have hmask : w &&& 0x300#10 = eventWord (evKind w &&& 0b11#2) (evData w &&& 0#8) := and_eventWord w 0b11#2 0#8
  have hall : evKind w &&& 0b11#2 = evKind w := BitVec.and_allOnes
  rw [hmask, hall, BitVec.and_zero]
  exact (eventWord_inj (k' := 0b01#2)).trans (and_iff_left rfl)

theorem and_dataMask_eq_zero_iff : w &&& 0x0FF#10 = 0#10 ↔ evData w = 0#8 := by
  have hmask : w &&& 0x0FF#10 = eventWord (evKind w &&& 0b00#2) (evData w &&& 0xFF#8) := and_eventWord w 0b00#2 0xFF#8
  have hall : evData w &&& 0xFF#8 = evData w := BitVec.and_allOnes
  rw [hmask, hall, BitVec.and_zero]
  exact (eventWord_inj (m' := 0#8)).trans (and_iff_right rfl)

/-- The words of a legal form: FEED with any byte, or one of the three words without data (30_encoding.md R61). -/
theorem feedKind_or_zeroData_iff : evKind w = 0b01#2 ∨ evData w = 0#8 ↔
    w = 0x000#10 ∨ evKind w = 0b01#2 ∨ w = 0x200#10 ∨ w = 0x300#10 := by
  constructor
  · rintro (hk | hd)
    · exact .inr (.inl hk)
    · have hw := eventWord_evKind_evData w
      rw [hd] at hw
      rcases evKind_cases (evKind w) with hk | hk | hk | hk <;> rw [hk] at hw
      · exact .inl hw.symm
      · exact .inr (.inl hk)
      · exact .inr (.inr (.inl hw.symm))
      · exact .inr (.inr (.inr hw.symm))
  · rintro (rfl | hk | rfl | rfl)
    · exact .inr rfl
    · exact .inl hk
    · exact .inr rfl
    · exact .inr rfl

/-! ## Rows and contexts -/

/-- A row's condition implies its operand check: a noise byte is none of the bytes its state acts on. -/
theorem wf_of_rowApplies (ha : rowApplies c i = true) : i.wf = true := by
  cases i
  case feedA1Noise b => simp_all [Instr.wf]
  case feedA2Noise b => simp_all [Instr.wf]
  all_goals rfl

/-- A parser context where the row of an instruction applies: the columns `state` and `cursor` of 30_encoding.md R62's
map, and for a completing row a checksum that matches its byte, or does not. -/
def Instr.homeCtx : Instr → DecodeCtx
  | .feedA2Hdr1 | .feedA2Rearm | .feedA2Noise _ => ⟨.await2, 0#4, 0#8⟩
  | .feedColData _ => ⟨.collect, 2#4, 0#8⟩
  | .feedColLastOk b => ⟨.collect, 14#4, b⟩
  | .feedColLastBad b => ⟨.collect, 14#4, b + 1#8⟩
  | .idle | .feedA1Hdr0 | .feedA1Noise _ | .reset | .encode => resetCtx

theorem homeCtx_representable (i : Instr) : representable i.homeCtx.state i.homeCtx.cursor = true := by
  cases i <;> rfl

theorem homeCtx_rowApplies (hwf : i.wf = true) : rowApplies i.homeCtx i = true := by
  cases i
  case feedA1Noise b => simpa [Instr.homeCtx, resetCtx, Instr.wf] using hwf
  case feedA2Noise b => simpa [Instr.homeCtx, Instr.wf, and_comm] using hwf
  all_goals simp [Instr.homeCtx, resetCtx]

/-- In AWAIT1 no row depends on the checksum. -/
theorem rowApplies_congr_of_await1 {c' : DecodeCtx} (hst : c.state = .await1) (hst' : c'.state = .await1)
    (hcur : c.cursor = c'.cursor) : rowApplies c i = rowApplies c' i := by
  rw [Bool.eq_iff_iff]
  cases i <;> simp [hst, hst', hcur]

/-- The FEED rows are those whose word is of kind FEED (30_encoding.md R60). -/
theorem evKind_encode_eq_feed_iff : evKind (encode i) = 0b01#2 ↔ i ≠ .idle ∧ i ≠ .reset ∧ i ≠ .encode := by
  cases i <;> simp [encode]

/-- Settles O2: where a row applies the decoder answers it on its word, and each row applies in its `homeCtx`. -/
theorem decodeOfEncodeIsTheInstruction : Obligations.DecodeOfEncodeIsTheInstruction := by
  unfold Obligations.DecodeOfEncodeIsTheInstruction
  refine ⟨fun c i hr ha => decode_eq_ok_iff.mpr ⟨hr, ha, rfl⟩, fun i hwf => ?_⟩
  have hr := homeCtx_representable i
  exact ⟨i.homeCtx, hr, decode_eq_ok_iff.mpr ⟨hr, homeCtx_rowApplies hwf, rfl⟩⟩

/-- Settles O3: the decoder answers a row only on the row's word and where the row applies. -/
theorem decodedWordIsTheEncodedWord : Obligations.DecodedWordIsTheEncodedWord := by
  unfold Obligations.DecodedWordIsTheEncodedWord
  intro c w i h
  obtain ⟨hr, ha, hw⟩ := decode_eq_ok_iff.mp h
  exact ⟨hw.symm, wf_of_rowApplies ha, ha, hr⟩

/-- Settles O1: each word is its row's word, in a context where the row applies. -/
theorem specWordsDecodeToTheirRows : Obligations.SpecWordsDecodeToTheirRows := by
  unfold Obligations.SpecWordsDecodeToTheirRows
  simp only [decode_eq_ok_iff]
  decide

/-! ## The FEED map -/

section Representable

variable (hr : representable c.state c.cursor = true)
include hr

/-- Outside COLLECT a representable cursor is 0 (10_state.md R25). -/
theorem cursor_eq_zero_of_representable (hst : c.state ≠ .collect) : c.cursor = 0#4 := by
  cases h : c.state <;> simp_all [representable]

/-- A row of the header states without operand is chosen by its word and its parser state (30_encoding.md R64). -/
theorem decode_eq_ok_iff_word_and_state {p : ParserState} (hp : p ≠ .collect)
    (ha : rowApplies c i = true ↔ c.state = p ∧ c.cursor = 0#4) :
    decode c w = .ok i ↔ w = encode i ∧ c.state = p := by
  rw [decode_eq_ok_iff, ha]
  constructor
  · rintro ⟨-, ⟨hst, -⟩, hw⟩
    exact ⟨hw, hst⟩
  · rintro ⟨hw, hst⟩
    exact ⟨hr, ⟨hst, cursor_eq_zero_of_representable hr (hst ▸ hp)⟩, hw⟩

theorem decode_eq_feedA1Hdr0_iff : decode c w = .ok .feedA1Hdr0 ↔ w = 0x1BB#10 ∧ c.state = .await1 :=
  decode_eq_ok_iff_word_and_state hr (by decide) (rowApplies_feedA1Hdr0 c)

theorem decode_eq_feedA2Rearm_iff : decode c w = .ok .feedA2Rearm ↔ w = 0x1BB#10 ∧ c.state = .await2 :=
  decode_eq_ok_iff_word_and_state hr (by decide) (rowApplies_feedA2Rearm c)

theorem decode_eq_feedA2Hdr1_iff : decode c w = .ok .feedA2Hdr1 ↔ w = 0x151#10 ∧ c.state = .await2 :=
  decode_eq_ok_iff_word_and_state hr (by decide) (rowApplies_feedA2Hdr1 c)

theorem decode_feedA1Hdr0 (hst : c.state = .await1) : decode c (eventWord 0b01#2 0xBB#8) = .ok .feedA1Hdr0 :=
  (decode_eq_feedA1Hdr0_iff hr).mpr ⟨rfl, hst⟩

theorem decode_feedA1Noise (hst : c.state = .await1) (hb : b ≠ 0xBB#8) :
    decode c (eventWord 0b01#2 b) = .ok (.feedA1Noise b) := by
  have hcur := cursor_eq_zero_of_representable hr (by simp [hst])
  exact decode_eq_ok_iff.mpr ⟨hr, (rowApplies_feedA1Noise c b).mpr ⟨hst, hcur, hb⟩, rfl⟩

theorem decode_feedA2Hdr1 (hst : c.state = .await2) : decode c (eventWord 0b01#2 0x51#8) = .ok .feedA2Hdr1 :=
  (decode_eq_feedA2Hdr1_iff hr).mpr ⟨rfl, hst⟩

theorem decode_feedA2Rearm (hst : c.state = .await2) : decode c (eventWord 0b01#2 0xBB#8) = .ok .feedA2Rearm :=
  (decode_eq_feedA2Rearm_iff hr).mpr ⟨rfl, hst⟩

theorem decode_feedA2Noise (hst : c.state = .await2) (h1 : b ≠ 0x51#8) (h0 : b ≠ 0xBB#8) :
    decode c (eventWord 0b01#2 b) = .ok (.feedA2Noise b) := by
  have hcur := cursor_eq_zero_of_representable hr (by simp [hst])
  exact decode_eq_ok_iff.mpr ⟨hr, (rowApplies_feedA2Noise c b).mpr ⟨hst, hcur, h1, h0⟩, rfl⟩

theorem decode_feedColData (b : Byte) (hst : c.state = .collect) (hcur : c.cursor ≠ 14#4) :
    decode c (eventWord 0b01#2 b) = .ok (.feedColData b) := by
  have hrange := representable_collect (hst ▸ hr)
  have hne : c.cursor.toNat ≠ 14 := mt cursor_eq_fourteen_iff.mpr hcur
  exact decode_eq_ok_iff.mpr ⟨hr, (rowApplies_feedColData c b).mpr ⟨hst, hrange.resolve_right hne⟩, rfl⟩

theorem decode_feedColLastOk (hst : c.state = .collect) (hcur : c.cursor = 14#4) (hsum : c.computed = b) :
    decode c (eventWord 0b01#2 b) = .ok (.feedColLastOk b) :=
  decode_eq_ok_iff.mpr
    ⟨hr, (rowApplies_feedColLastOk c b).mpr ⟨hst, cursor_eq_fourteen_iff.mp hcur, hsum⟩, rfl⟩

theorem decode_feedColLastBad (hst : c.state = .collect) (hcur : c.cursor = 14#4) (hsum : c.computed ≠ b) :
    decode c (eventWord 0b01#2 b) = .ok (.feedColLastBad b) :=
  decode_eq_ok_iff.mpr
    ⟨hr, (rowApplies_feedColLastBad c b).mpr ⟨hst, cursor_eq_fourteen_iff.mp hcur, hsum⟩, rfl⟩

/-- Every FEED word is legal (30_encoding.md R61): the map has a row for every byte. -/
theorem exists_decode_feed (b : Byte) : ∃ i, decode c (eventWord 0b01#2 b) = .ok i := by
  cases hst : c.state with
  | await1 =>
    by_cases h0 : b = 0xBB#8
    · exact ⟨_, h0 ▸ decode_feedA1Hdr0 hr hst⟩
    · exact ⟨_, decode_feedA1Noise hr hst h0⟩
  | await2 =>
    by_cases h1 : b = 0x51#8
    · exact ⟨_, h1 ▸ decode_feedA2Hdr1 hr hst⟩
    by_cases h0 : b = 0xBB#8
    · exact ⟨_, h0 ▸ decode_feedA2Rearm hr hst⟩
    · exact ⟨_, decode_feedA2Noise hr hst h1 h0⟩
  | collect =>
    by_cases hcur : c.cursor = 14#4
    · by_cases hsum : c.computed = b
      · exact ⟨_, decode_feedColLastOk hr hst hcur hsum⟩
      · exact ⟨_, decode_feedColLastBad hr hst hcur hsum⟩
    · exact ⟨_, decode_feedColData hr b hst hcur⟩

/-! ## Accepted and rejected words -/

theorem decode_of_reservedBits (hk : evKind w ≠ 0b01#2) (hd : evData w ≠ 0#8) :
    decode c w = .error .reservedEventBits := by
  simp [decode, hr, hk, hd]

/-- A row that applies is answered on its word alone. -/
theorem decode_eq_ok_iff_eq_encode (ha : rowApplies c i = true) : decode c w = .ok i ↔ w = encode i := by
  simp [decode_eq_ok_iff, hr, ha]

theorem decode_eq_idle_iff : decode c w = .ok .idle ↔ w = 0x000#10 :=
  decode_eq_ok_iff_eq_encode hr rfl

theorem decode_eq_reset_iff : decode c w = .ok .reset ↔ w = 0x200#10 :=
  decode_eq_ok_iff_eq_encode hr rfl

theorem decode_eq_encode_iff : decode c w = .ok .encode ↔ w = 0x300#10 :=
  decode_eq_ok_iff_eq_encode hr rfl

/-- In a representable context a word is accepted exactly when it is of a legal form (30_encoding.md R61). -/
theorem exists_decode_eq_ok_iff : (∃ i, decode c w = .ok i) ↔ evKind w = 0b01#2 ∨ evData w = 0#8 := by
  constructor
  · rintro ⟨i, hok⟩
    by_contra hnot
    obtain ⟨hk, hd⟩ := not_or.mp hnot
    cases hok.symm.trans (decode_of_reservedBits hr hk hd)
  · intro hlegal
    rcases feedKind_or_zeroData_iff.mp hlegal with hw | hk | hw | hw
    · exact ⟨_, (decode_eq_idle_iff hr).mpr hw⟩
    · rw [← eventWord_evKind_evData w, hk]
      exact exists_decode_feed hr _
    · exact ⟨_, (decode_eq_reset_iff hr).mpr hw⟩
    · exact ⟨_, (decode_eq_encode_iff hr).mpr hw⟩

end Representable

/-- Settles O4: the map clause by clause; two rows with the word that both apply are both what the decoder answers. -/
theorem feedWordSelectsExactlyOneRow : Obligations.FeedWordSelectsExactlyOneRow := by
  unfold Obligations.FeedWordSelectsExactlyOneRow
  intro c b hr
  refine ⟨fun hst hb => hb ▸ decode_feedA1Hdr0 hr hst, decode_feedA1Noise hr,
    fun hst hb => hb ▸ decode_feedA2Hdr1 hr hst, fun hst hb => hb ▸ decode_feedA2Rearm hr hst, decode_feedA2Noise hr,
    decode_feedColData hr b, decode_feedColLastOk hr, decode_feedColLastBad hr, ?_⟩
  obtain ⟨i, hi⟩ := exists_decode_feed hr b
  obtain ⟨-, ha, hw⟩ := decode_eq_ok_iff.mp hi
  refine ⟨i, ⟨ha, hw.symm⟩, fun j ⟨haj, hwj⟩ => ?_⟩
  have hj : decode c (eventWord 0b01#2 b) = .ok j := decode_eq_ok_iff.mpr ⟨hr, haj, hwj.symm⟩
  exact Except.ok.inj (hj.symm.trans hi)

/-- Settles O5: the masks read as the fields of the word, and the kinds as the decoder's rows. -/
theorem acceptedWordsAreTheMaskedPatterns : Obligations.AcceptedWordsAreTheMaskedPatterns := by
  unfold Obligations.AcceptedWordsAreTheMaskedPatterns
  intro c w hr
  have hfeed : evKind w = 0b01#2 → ∃ i, decode c w = .ok i ∧ w = encode i := fun hk => by
    obtain ⟨i, hi⟩ := (exists_decode_eq_ok_iff hr).mpr (.inl hk)
    exact ⟨i, hi, (decode_eq_ok_iff.mp hi).2.2⟩
  simp only [and_wordMask, and_kindMask_eq_feed_iff, ne_eq, and_dataMask_eq_zero_iff]
  refine ⟨(exists_decode_eq_ok_iff hr).trans feedKind_or_zeroData_iff, decode_eq_idle_iff hr, decode_eq_reset_iff hr,
    decode_eq_encode_iff hr, ⟨?_, ?_⟩, ?_, decode_eq_feedA1Hdr0_iff hr, decode_eq_feedA2Rearm_iff hr,
    decode_eq_feedA2Hdr1_iff hr, ?_⟩
  · rintro ⟨i, hi, hrow⟩
    obtain ⟨-, -, rfl⟩ := decode_eq_ok_iff.mp hi
    exact evKind_encode_eq_feed_iff.mpr hrow
  · intro hk
    obtain ⟨i, hi, rfl⟩ := hfeed hk
    exact ⟨i, hi, evKind_encode_eq_feed_iff.mp hk⟩
  · intro hk
    obtain ⟨i, hi, hw⟩ := hfeed hk
    exact ⟨i, hi, hw.symm⟩
  · intro r herr
    refine not_or.mp fun hlegal => ?_
    obtain ⟨i, hi⟩ := (exists_decode_eq_ok_iff hr).mpr hlegal
    cases herr.symm.trans hi

end Sys2Proof

namespace Sys2Proof.Machine

/-! ## The step on reserved bits, on FEED and on a placed word -/

/-- A FEED row has no refusal of its own: from a representable pair where it applies it leads to a next state. -/
theorem exists_exec_feed {s : State} {i : Instr} (hr : s.Representable) (ha : rowApplies s.decodeCtx i = true)
    (hk : evKind (encode i) = 0b01#2) : ∃ t, exec i s = .next t := by
  cases i
  case idle | reset | encode => simp [encode] at hk
  all_goals exact ⟨_, onRow_of_applies _ hr ha⟩

/-- Settles O8: the decoder rejects nonzero reserved bits, and the row it answers on a FEED word has no refusal. -/
theorem reservedBitsRefusedAndEveryFeedWordLegal : Obligations.ReservedBitsRefusedAndEveryFeedWordLegal := by
  unfold Obligations.ReservedBitsRefusedAndEveryFeedWordLegal
  refine ⟨fun s hr hk hd => ?_, fun s b hr hev => ?_⟩
  · have herr : decode s.decodeCtx s.presented.ev = .error .reservedEventBits := decode_of_reservedBits hr hk hd
    simp [step, herr, rejectRefusal]
  · obtain ⟨i, hi⟩ := exists_decode_feed (c := s.decodeCtx) hr b
    obtain ⟨-, ha, hw⟩ := decode_eq_ok_iff.mp hi
    rw [step_of_decode (hev ▸ hi)]
    exact exists_exec_feed hr ha (by rw [← hw, evKind_eventWord])

@[simp] theorem State.withFetchWord_presented_ev (s : State) (nbits n : Nat) :
    (s.withFetchWord nbits n).presented.ev = BitVec.ofNat 10 (n % 2 ^ nbits) := rfl

@[simp] theorem State.withFetchWord_decodeCtx (s : State) (nbits n : Nat) :
    (s.withFetchWord nbits n).decodeCtx = s.decodeCtx := rfl

theorem decode_of_decodeTableWord {nbits n : Nat} {i : Instr} (h : decodeTableWord nbits n = some i) :
    decode resetCtx (BitVec.ofNat 10 (n % 2 ^ nbits)) = .ok i := by
  unfold decodeTableWord at h
  split at h
  · exact Option.some.inj h ▸ ‹_›
  · cases h

/-- Settles O7: the placed word is the one presented, and the reset state decodes as `resetCtx` does, since both are in
AWAIT1. -/
theorem placedWordRunsAsTheTableWordDecodes : Obligations.PlacedWordRunsAsTheTableWordDecodes := by
  unfold Obligations.PlacedWordRunsAsTheTableWordDecodes
  refine ⟨fun s nbits n => ⟨s.withFetchWord_presented_ev nbits n, s.withFetchWord_decodeCtx nbits n⟩,
    fun nbits n i h => step_of_decode ?_⟩
  obtain ⟨hr, ha, hw⟩ := decode_eq_ok_iff.mp (decode_of_decodeTableWord h)
  have ha' : rowApplies State.reset.decodeCtx i = true := (rowApplies_congr_of_await1 rfl rfl rfl).trans ha
  rw [State.withFetchWord_presented_ev, State.withFetchWord_decodeCtx]
  exact decode_eq_ok_iff.mpr ⟨hr, ha', hw⟩

/-! ## Bits of a frame that carry no field -/

/-- Two bytes that agree under a mask agree under every mask within it. -/
theorem and_eq_and_of_submask {a b m n : Byte} (h : a &&& m = b &&& m) (hsub : m &&& n = n) : a &&& n = b &&& n := by
  rw [← hsub, ← BitVec.and_assoc, ← BitVec.and_assoc, h]

/-- Settles O41: each field is a function of the bits it reads; fan and mode share byte 3's mask 0x23. -/
theorem unreadInboundBitsDoNotMatter : Obligations.UnreadInboundBitsDoNotMatter := by
  unfold Obligations.UnreadInboundBitsDoNotMatter
  intro pol d f g h2 h3 h4 h5 h7 h9 h10
  have hfan : f[3] &&& 0x20#8 = g[3] &&& 0x20#8 := and_eq_and_of_submask h3 (by decide)
  have hmode : f[3] &&& 0x03#8 = g[3] &&& 0x03#8 := and_eq_and_of_submask h3 (by decide)
  simp [decodeSnapshot, fieldPower, fieldFanHigh, fieldModeCode, fieldHumidity, fieldTgtCode, fieldCompressor,
    fieldTankFull, fieldTemperature, bitSet, h2, hfan, hmode, h4, h5, h7, h9, h10]

theorem cmdPower_reserved (d : DesiredState) : cmdPower d &&& 0x7F#8 = 0#8 := by
  unfold cmdPower
  split <;> rfl

/-- Bits 7, 6, 3 and 2 of the mode byte are 0 and bit 4 is 1, for each mode and fan setting (44_command_encode.md
R173). -/
theorem cmdModeFan_reserved (d : DesiredState) : cmdModeFan d &&& 0xDC#8 = 0x10#8 := by
  unfold cmdModeFan
  cases d.mode <;> split <;> rfl

/-- Settles O43: byte by byte of the frame written out. -/
theorem reservedCommandBitsAreFixed : Obligations.ReservedCommandBitsAreFixed := by
  unfold Obligations.ReservedCommandBitsAreFixed
  intro d
  rw [commandFrame_eq_literal]
  exact ⟨cmdPower_reserved d, cmdModeFan_reserved d, rfl, rfl, rfl, rfl⟩

end Sys2Proof.Machine
end

section
/-! The statements of 40_control_events.md: IDLE (R100), ENCODE (R101), RESET (R102), and the refusal of every event
from an unrepresentable pair (R103). What the three events do is read off their rows in `RowStep`. -/

namespace Sys2Proof.Machine

variable {s : State}

/-! ## Unrepresentable pairs -/

/-- Every meaning begins with the guard, and the guard refuses (40_control_events.md R103). -/
theorem exec_of_not_representable (i : Instr) (h : ¬ s.Representable) : exec i s = .refused .unreachableState := by
  cases i <;> exact onRow_of_unreachable _ (Bool.eq_false_iff.mpr h)

/-- The decoder looks at the pair before it looks at the word (60_exceptions.md R202). -/
theorem decode_of_not_representable (w : EventWord) (h : ¬ s.Representable) :
    decode s.decodeCtx w = .error .unreachableState :=
  if_pos (Bool.eq_false_iff.mpr h)

theorem step_of_not_representable (h : ¬ s.Representable) : step s = .refused .unreachableState := by
  simp [step, decode_of_not_representable _ h, rejectRefusal]

/-- Settles O10: the decoder refuses the pair under any word, and so does the guard of any meaning. -/
theorem unreachableStateRefusesEveryEvent : Obligations.UnreachableStateRefusesEveryEvent := by
  unfold Obligations.UnreachableStateRefusesEveryEvent
  exact fun s h => ⟨step_of_not_representable h, fun i => exec_of_not_representable i h⟩

/-! ## IDLE and RESET -/

/-- A word of a kind other than FEED is refused when it has data (30_encoding.md R61). -/
theorem step_of_reservedBits {k : BitVec 2} (hr : s.Representable) (hk : evKind s.presented.ev = k)
    (hfeed : k ≠ 0b01#2) (hd : evData s.presented.ev ≠ 0#8) : step s = .refused .reservedEventBits :=
  reservedBitsRefusedAndEveryFeedWordLegal.1 s hr (hk ▸ hfeed) hd

/-- Settles O25: IDLE's row writes the output alone. -/
theorem idleChangesNothing : Obligations.IdleChangesNothing := by
  unfold Obligations.IdleChangesNothing
  exact ⟨fun s hr => RowStep.idle.exec_eq hr, fun s hr hk hd => step_of_reservedBits hr hk (by decide) hd⟩

/-- Settles O26: RESET's row sets the registers and forgets the buffer, whose bytes are then the next free contents'. -/
theorem resetReturnsToTheResetState : Obligations.ResetReturnsToTheResetState := by
  unfold Obligations.ResetReturnsToTheResetState
  refine ⟨fun s hr => ?_, fun s hr hk hd => step_of_reservedBits hr hk (by decide) hd⟩
  have hexec := RowStep.reset.exec_eq hr
  exact ⟨_, hexec, rfl, rfl, rfl, fun i => State.forgetBuf_readBuf _ i, rfl, exec_sameOutside hexec⟩

/-! ## ENCODE -/

theorem exec_encode_of_noEncoder (hr : s.Representable) (henc : s.params.hasEncoder = false) :
    exec .encode s = .refused .noEncoder :=
  (onRow_of_applies _ hr rfl).trans (by simp [henc])

/-- Code 11 is no mode, so a port that carries it holds no operand (44_command_encode.md R171). -/
theorem desiredOfPort_of_modeEleven {p : DesiredPort} (hmode : p.mode = 0b11#2) : desiredOfPort p = none := by
  simp [desiredOfPort, modeOfCode, hmode]

theorem exec_encode_of_modeEleven (hr : s.Representable) (henc : s.params.hasEncoder = true)
    (hmode : s.ds.mode = 0b11#2) : exec .encode s = .refused .invalidMode :=
  (onRow_of_applies _ hr rfl).trans (by simp [henc, desiredOfPort_of_modeEleven hmode])

/-- With the encoder present and an operand on the port, ENCODE writes its output alone (40_control_events.md R101). -/
theorem exec_encode_of_operand {d : DesiredState} (hr : s.Representable) (henc : s.params.hasEncoder = true)
    (hds : s.ds = portOfDesired d) : exec .encode s = .next (s.output (some (.commandFrame (commandFrame d)))) := by
  have hd : desiredOfPort s.ds = some d := by rw [hds, desiredOfPort_portOfDesired]
  exact (RowStep.encode henc hd).exec_eq hr

/-- The command frame's last byte is the sum of the bytes 2 to 8 beside it (42_checksum.md R142). -/
theorem commandFrame_checksum (d : DesiredState) : (commandFrame d)[9] = (commandFrame d)[2] + (commandFrame d)[3] +
    (commandFrame d)[4] + (commandFrame d)[5] + (commandFrame d)[6] + (commandFrame d)[7] + (commandFrame d)[8] := by
  simp [commandFrame_eq_literal, cmdChecksum_eq_sum]

/-- Settles O28: the frame is `commandFrame`, whose bytes 3 and 5 go by the mode; the refusals stand in the order
reserved bits, encoder, mode. -/
theorem encodeEmitsTheCommandFrame : Obligations.EncodeEmitsTheCommandFrame := by
  unfold Obligations.EncodeEmitsTheCommandFrame
  refine ⟨fun s d hr henc hds => ?_, fun s hr hk hd => step_of_reservedBits hr hk (by decide) hd,
    fun s hr henc => exec_encode_of_noEncoder hr henc, fun s hr henc hmode => exec_encode_of_modeEleven hr henc hmode⟩
  refine ⟨commandFrame d, exec_encode_of_operand hr henc hds, rfl, rfl, rfl, ?mode, rfl, ?target, rfl, rfl, rfl,
    commandFrame_checksum d⟩
  case mode =>
    show cmdModeFan d = _
    unfold cmdModeFan
    cases d.mode <;> rfl
  case target =>
    show targetCode d.mode d.target = _
    cases d.mode <;> rfl

end Sys2Proof.Machine
end

section
/-! The statements of 41_feed.md: the eight FEED rows (R111 to R118), header bytes as data (R119), what leaves the
parser alone (R120), and runs of FEED events: synchronization, the whole frame, and the extent of a frame event (R121).
A row's effect is read off `RowStep`; a run of FEED events is a `QuietRun` followed by the step that completes the
frame. -/

namespace Sys2Proof

/-- A FEED row's condition holds only at a representable pair (30_encoding.md R62, 10_state.md R25). -/
theorem representable_of_rowApplies_feed {c : DecodeCtx} {i : Instr} {b : Byte} (ha : rowApplies c i = true)
    (hi : encode i = eventWord 0b01#2 b) : representable c.state c.cursor = true := by
  cases i
  case idle | reset | encode => simp [encode, eventWord_inj] at hi
  case feedColData b =>
    obtain ⟨hst, hlo, hhi⟩ := (rowApplies_feedColData c b).mp ha
    simp [representable, hst, hlo]
    omega
  all_goals simp_all [representable]

end Sys2Proof

namespace Sys2Proof.Machine

variable {s t : State} {i : Instr} {b : Byte}

/-! ## The rows one by one -/

theorem RowStep.representable_of_feed (h : RowStep s i t) (hi : Sys2Proof.encode i = eventWord 0b01#2 b) :
    s.Representable :=
  representable_of_rowApplies_feed h.rowApplies hi

/-- A FEED row's step is its meaning's answer, with no further condition on the state. -/
theorem RowStep.exec_feed (h : RowStep s i t) (hi : Sys2Proof.encode i = eventWord 0b01#2 b) : exec i s = .next t :=
  h.exec_eq (h.representable_of_feed hi)

/-- Settles O16: the row writes the parser state alone. -/
theorem firstHeaderByteGoesToAwait2 : Obligations.FirstHeaderByteGoesToAwait2 := by
  unfold Obligations.FirstHeaderByteGoesToAwait2
  exact fun s hst hcur => (RowStep.feedA1Hdr0 hst hcur).exec_feed rfl

/-- Settles O17: the row writes nothing. -/
theorem noiseInAwait1IsDiscarded : Obligations.NoiseInAwait1IsDiscarded := by
  unfold Obligations.NoiseInAwait1IsDiscarded
  exact fun s b hst hcur hb => (RowStep.feedA1Noise b hst hcur hb).exec_feed rfl

/-- Settles O19: the row writes nothing. -/
theorem repeatedHeaderByteReArms : Obligations.RepeatedHeaderByteReArms := by
  unfold Obligations.RepeatedHeaderByteReArms
  exact fun s hst hcur => (RowStep.feedA2Rearm hst hcur).exec_feed rfl

/-- Settles O20: the row writes the parser state alone. -/
theorem brokenHeaderReturnsToAwait1 : Obligations.BrokenHeaderReturnsToAwait1 := by
  unfold Obligations.BrokenHeaderReturnsToAwait1
  exact fun s b hst hcur h1 h0 => (RowStep.feedA2Noise b hst hcur h1 h0).exec_feed rfl

/-- Settles O18: the header's two writes and the two registers; a write leaves every other byte. -/
theorem headerCompleteStartsCollecting : Obligations.HeaderCompleteStartsCollecting := by
  unfold Obligations.HeaderCompleteStartsCollecting
  intro s hst hcur
  have hexec := (RowStep.feedA2Hdr1 hst hcur).exec_feed rfl
  obtain ⟨h0, h1⟩ := s.readBuf_writeHeader
  refine ⟨_, hexec, rfl, rfl, h0, h1, fun j hj0 hj1 => ?_, rfl, by simp, by simp, exec_sameOutside hexec⟩
  exact (State.readBuf_writeBuf_other _ _ hj1).trans (State.readBuf_writeBuf_other _ _ hj0)

/-- Settles O21: one write at the cursor, which then counts up without wrapping. -/
theorem collectedByteIsStoredAtTheCursor : Obligations.CollectedByteIsStoredAtTheCursor := by
  unfold Obligations.CollectedByteIsStoredAtTheCursor
  intro s b hst hlo hhi
  have hexec := (RowStep.feedColData b hst hlo hhi).exec_feed rfl
  exact ⟨_, hexec, by simpa using hst, toNat_cursor_add_one hhi, s.readBuf_writeBuf_same b (by simp; omega),
    fun j hj => s.readBuf_writeBuf_other b hj, rfl, by simp, by simp, exec_sameOutside hexec⟩

/-- The checksum after the last byte's write, which R117 and R118 compare, is the one the row is selected by. -/
theorem State.checksum_writeBuf_last (s : State) (b : Byte) :
    checksum (s.writeBuf 14 b).frame.toList 2 13 = frameChecksum s.frame :=
  s.completeFrame_checksum b

/-- The last byte is not the target code's. -/
theorem State.completedFrame_tgtCode (s : State) (b : Byte) : fieldTgtCode (s.completedFrame b) = s.readBuf 5 :=
  s.completedFrame_getElem b 5 (by decide)

/-- Settles O22: one write at index 14, the event of the completed frame, and the draw its target code asks for. -/
theorem matchingChecksumAcceptsTheFrame : Obligations.MatchingChecksumAcceptsTheFrame := by
  unfold Obligations.MatchingChecksumAcceptsTheFrame
  intro s b hst hcur hsum
  rw [s.checksum_writeBuf_last] at hsum
  have hexec := (RowStep.feedColLastOk b hst (cursor_eq_fourteen_iff.mp hcur) hsum).exec_feed rfl
  refine ⟨_, s.completedFrame b, hexec, s.completedFrame_getElem b, rfl, rfl, rfl, ?_, fun j hj => ?_, by simp, ?_,
    exec_sameOutside hexec⟩
  · simpa using s.completeFrame_readBuf_last b
  · simpa using s.completeFrame_readBuf_other b hj
  · simp [s.completedFrame_tgtCode]

/-- Settles O23: one write at index 14 and the event with both checksums. -/
theorem checksumMismatchRejectsTheFrame : Obligations.ChecksumMismatchRejectsTheFrame := by
  unfold Obligations.ChecksumMismatchRejectsTheFrame
  intro s b hst hcur hsum
  rw [s.checksum_writeBuf_last] at hsum ⊢
  have hexec := (RowStep.feedColLastBad b hst (cursor_eq_fourteen_iff.mp hcur) hsum).exec_feed rfl
  exact ⟨_, s.completedFrame b, hexec, s.completedFrame_getElem b, rfl, rfl, rfl, s.completeFrame_readBuf_last b,
    fun _ hj => s.completeFrame_readBuf_other b hj, by simp, by simp, exec_sameOutside hexec⟩

/-! ## Every byte in COLLECT -/

/-- Below index 14 a byte is stored after the bytes held, whatever it is (41_feed.md R116). -/
theorem exists_rowStep_collect (b : Byte) (hst : s.state = .collect) (hlo : 2 ≤ s.cursor.toNat)
    (hhi : s.cursor.toNat ≤ 13) :
    ∃ t, RowStep s (.feedColData b) t ∧ t.out = none ∧ t.state = .collect ∧ t.cursor.toNat = s.cursor.toNat + 1 ∧
      t.bytesHeld = s.bytesHeld ++ [b] :=
  ⟨_, .feedColData b hst hlo hhi, rfl, by simpa using hst, toNat_cursor_add_one hhi, s.bytesHeld_store b hhi⟩

/-- The event of the FEED that completes a frame with the byte `b` (41_feed.md R117, R118). -/
def State.completionEvent (s : State) (b : Byte) : OutputEvent :=
  if frameChecksum s.frame = b then .frameAccepted (s.completedFrame b) (s.snapshotOf (s.completedFrame b))
  else .checksumMismatch (frameChecksum s.frame) b (s.completedFrame b)

/-- Whatever the byte, the fifteenth one is stored at index 14, has the completion event as its output, and returns to
AWAIT1. -/
theorem exists_rowStep_last (b : Byte) (hst : s.state = .collect) (hcur : s.cursor.toNat = 14) :
    ∃ i t, encode i = eventWord 0b01#2 b ∧ RowStep s i t ∧ t.out = some (s.completionEvent b) ∧ t.state = .await1 ∧
      t.cursor = 0#4 ∧ ∀ j, t.readBuf j = (s.writeBuf 14 b).readBuf j := by
  by_cases hsum : frameChecksum s.frame = b
  · exact ⟨_, _, rfl, .feedColLastOk b hst hcur hsum, by simp [State.completionEvent, hsum], rfl, rfl,
      fun j => by simp [State.completeFrame]⟩
  · exact ⟨_, _, rfl, .feedColLastBad b hst hcur hsum, by simp [State.completionEvent, hsum], rfl, rfl, fun _ => rfl⟩

/-- A FEED row whose word the presented byte spells is the step taken. -/
theorem step_feed (hrow : RowStep s.takeInput i t) (hi : encode i = eventWord 0b01#2 b)
    (hev : s.presented.ev = eventWord 0b01#2 b) : step s = .next t :=
  step_eq_next_iff.mpr ⟨hrow.representable_of_feed hi, i, hev.trans hi.symm, hrow⟩

/-- Settles O24: below 14 the row is FEED.COL_DATA, and at 14 one of the two completing rows, for every byte. -/
theorem headerBytesInsideAFrameAreData : Obligations.HeaderBytesInsideAFrameAreData := by
  unfold Obligations.HeaderBytesInsideAFrameAreData
  intro s b hr hst hev
  have hcursor : representable .collect s.cursor = true := hst ▸ hr
  obtain ⟨hlo, hhi⟩ | hcur := representable_collect hcursor
  · refine ⟨_, step_feed (.feedColData b hst hlo hhi) rfl hev, s.takeInput.readBuf_writeBuf_same b (by simp; omega),
      fun j hj => ?_, fun _ => ⟨by simpa using hst, toNat_cursor_add_one hhi, rfl⟩, fun h14 => by omega⟩
    simpa using s.takeInput.readBuf_writeBuf_other b hj
  · obtain ⟨i, t, hi, hrow, hout, hawait, hzero, hbuf⟩ := exists_rowStep_last (s := s.takeInput) b hst hcur
    rw [hcur]
    refine ⟨t, step_feed hrow hi hev, ?_, fun j hj => ?_, fun h => absurd h (by decide),
      fun _ => ⟨hawait, hzero, by simp [hout]⟩⟩
    · exact (hbuf 14).trans (State.readBuf_writeBuf_same _ b (by decide))
    · exact (hbuf j).trans (State.readBuf_writeBuf_other _ b hj)

/-! ## Events that leave the parser alone -/

/-- Parser state, cursor and buffer are as before. -/
abbrev State.SameParser (s t : State) : Prop :=
  t.state = s.state ∧ t.cursor = s.cursor ∧ s.SameBuf t

theorem State.SameParser.trans {u : State} (h : s.SameParser u) (h' : u.SameParser t) : s.SameParser t := by
  obtain ⟨hst, hcur, hbuf⟩ := h
  obtain ⟨hst', hcur', hbuf'⟩ := h'
  exact ⟨hst'.trans hst, hcur'.trans hcur, fun j => (hbuf' j).trans (hbuf j)⟩

/-- IDLE and ENCODE write the output alone (40_control_events.md R100, R101). -/
theorem RowStep.sameParser (h : RowStep s i t) (hfeed : evKind (Sys2Proof.encode i) ≠ 0b01#2)
    (hreset : evKind (Sys2Proof.encode i) ≠ 0b10#2) : s.SameParser t := by
  cases h
  case idle | encode => exact ⟨rfl, rfl, fun _ => rfl⟩
  case reset => simp [Sys2Proof.encode] at hreset
  all_goals simp [Sys2Proof.encode] at hfeed

theorem step_sameParser (h : step s = .next t) (hfeed : s.presented.isFeed = false)
    (hreset : s.presented.isReset = false) : s.SameParser t := by
  obtain ⟨-, i, hev, hrow⟩ := step_eq_next_iff.mp h
  rw [Input.isFeed, hev, beq_eq_false_iff_ne] at hfeed
  rw [Input.isReset, hev, beq_eq_false_iff_ne] at hreset
  exact hrow.sameParser hfeed hreset

/-- The IDLE and ENCODE words are of neither kind. -/
theorem not_feed_not_reset_of_idle_or_encode {e : Input} (h : e.isIdle = true ∨ e.isEncode = true) :
    e.isFeed = false ∧ e.isReset = false := by
  rcases h with h | h <;> simp [Input.isFeed, Input.isReset, beq_iff_eq.mp h, encode]

/-- Settles O30: one step by the rows, and any number of IDLE and ENCODE events by induction on them. -/
theorem onlyFeedAndResetChangeTheParser : Obligations.OnlyFeedAndResetChangeTheParser := by
  unfold Obligations.OnlyFeedAndResetChangeTheParser
  refine ⟨fun s t h => step_sameParser h, fun s t ins hins h => ?_⟩
  change s.SameParser t
  induction ins generalizing s with
  | nil =>
    cases h
    exact ⟨rfl, rfl, fun _ => rfl⟩
  | cons e rest ih =>
    rw [List.forall_mem_cons] at hins
    rw [← List.singleton_append, stateAfter_append, Option.bind_eq_some_iff] at h
    obtain ⟨u, hu, hrest⟩ := h
    obtain ⟨hfeed, hreset⟩ := not_feed_not_reset_of_idle_or_encode hins.1
    have hfirst := step_sameParser (step_of_stateAfter_singleton hu) hfeed hreset
    exact hfirst.trans (ih u hins.2 hrest)

/-! ## Runs of FEED events without an output -/

/-- Only an accepted frame, which has an output event, draws a target (43_snapshot_decode.md R154). -/
theorem RowStep.keeps_params_draws (h : RowStep s i t) (hout : t.out = none) :
    t.params = s.params ∧ t.draws = s.draws := by
  cases h
  case feedColLastOk | encode => cases hout
  all_goals simp

/-- The events lead from the first state to the second, and no step on the way has an output event. -/
inductive QuietRun : State → List Input → State → Prop
  | nil (s : State) : QuietRun s [] s
  | cons {s u t : State} {e : Input} {ins : List Input} (hstep : step (s.withInputs [e]) = .next u)
    (hout : u.out = none) (hrest : QuietRun u ins t) : QuietRun s (e :: ins) t

namespace QuietRun

variable {ins ins' : List Input} {u : State}

/-- A FEED row without an output event, in front of a quiet run. -/
theorem cons_feed (hrow : RowStep (s.withInputs [feed b]).takeInput i u) (hi : encode i = eventWord 0b01#2 b)
    (hout : u.out = none) (hrest : QuietRun u ins t) : QuietRun s (feed b :: ins) t :=
  .cons (step_feed hrow hi rfl) hout hrest

theorem append (h : QuietRun s ins u) (h' : QuietRun u ins' t) : QuietRun s (ins ++ ins') t := by
  induction h with
  | nil => exact h'
  | cons hstep hout _ ih => exact .cons hstep hout (ih h')

theorem stateAfter_eq (h : QuietRun s ins t) : stateAfter s ins = some (t.withInputs []) := by
  induction h with
  | nil => rfl
  | cons hstep _ _ ih =>
    rw [← List.singleton_append, stateAfter_append, stateAfter_singleton_eq_some_iff.mpr hstep]
    exact ih

/-- A quiet run in front of other events only moves their step indexes (70_reset_and_hazards.md R223). -/
theorem observeSteps_append (h : QuietRun s ins t) (rest : List Input) (n k : Nat) :
    observeSteps (ins.length + n) k (s.withInputs (ins ++ rest)) =
      observeSteps n (ins.length + k) (t.withInputs rest) := by
  induction h generalizing k with
  | nil => simp
  | @cons s u t e ins hstep hout _ ih =>
    have hnext := step_withInputs (ins ++ rest) hstep
    rw [List.length_cons, Nat.add_right_comm, List.cons_append]
    simp [observeSteps, hnext, hout, ih, Nat.add_assoc, Nat.add_comm 1 k]

theorem observeFrom_append (h : QuietRun s ins t) (rest : List Input) :
    observeFrom s (ins ++ rest) = observeSteps rest.length (ins.length + 1) (t.withInputs rest) := by
  rw [observeFrom, List.length_append, h.observeSteps_append]

theorem observeFrom_eq (h : QuietRun s ins t) : observeFrom s ins = some [] := by
  simpa [observeSteps] using h.observeFrom_append []

/-- The one event of a quiet run and a step with an output. -/
theorem observeFrom_concat {e : Input} {ev : OutputEvent} (h : QuietRun s ins u)
    (hstep : step (u.withInputs [e]) = .next t) (hout : t.out = some ev) :
    observeFrom s (ins ++ [e]) = some [(ins.length + 1, ev)] := by
  rw [h.observeFrom_append]
  simp [observeSteps, hstep, hout]

theorem stateAfter_concat {e : Input} (h : QuietRun s ins u) (hstep : step (u.withInputs [e]) = .next t) :
    stateAfter s (ins ++ [e]) = some t := by
  rw [stateAfter_append, h.stateAfter_eq]
  exact stateAfter_singleton_eq_some_iff.mpr hstep

theorem keeps_params_draws (h : QuietRun s ins t) : t.params = s.params ∧ t.draws = s.draws := by
  induction h with
  | nil => exact ⟨rfl, rfl⟩
  | cons hstep hout _ ih =>
    obtain ⟨-, i, -, hrow⟩ := step_eq_next_iff.mp hstep
    have hkeep := hrow.keeps_params_draws hout
    exact ⟨ih.1.trans hkeep.1, ih.2.trans hkeep.2⟩

end QuietRun

/-! ## Synchronization -/

theorem feeds_append (bs cs : List Byte) : feeds (bs ++ cs) = feeds bs ++ feeds cs :=
  List.map_append

/-- From AWAIT2 any run of first header bytes re-arms, and the second header byte starts collecting (41_feed.md R113,
R114). -/
theorem exists_quietRun_rearm (n : Nat) (hst : s.state = .await2) (hcur : s.cursor = 0#4) :
    ∃ t, QuietRun s (feeds (List.replicate n 0xBB#8 ++ [0x51#8])) t ∧ t.state = .collect ∧ t.cursor = 2#4 ∧
      t.bytesHeld = [0xBB#8, 0x51#8] := by
  induction n generalizing s with
  | zero => exact ⟨_, .cons_feed (.feedA2Hdr1 hst hcur) rfl rfl (.nil _), rfl, rfl, State.bytesHeld_writeHeader _⟩
  | succ n ih =>
    obtain ⟨t, hrun, ht⟩ := ih (s := (s.withInputs [feed 0xBB#8]).takeInput.output none) hst hcur
    exact ⟨t, .cons_feed (.feedA2Rearm hst hcur) rfl rfl hrun, ht⟩

/-- From AWAIT1 the first of the run goes to AWAIT2 (41_feed.md R111). -/
theorem exists_quietRun_header (n : Nat) (hst : s.state = .await1) (hcur : s.cursor = 0#4) :
    ∃ t, QuietRun s (feeds (List.replicate (n + 1) 0xBB#8 ++ [0x51#8])) t ∧ t.state = .collect ∧ t.cursor = 2#4 ∧
      t.bytesHeld = [0xBB#8, 0x51#8] := by
  obtain ⟨t, hrun, ht⟩ := exists_quietRun_rearm n
    (s := ((s.withInputs [feed 0xBB#8]).takeInput.setState .await2).output none) rfl hcur
  exact ⟨t, .cons_feed (.feedA1Hdr0 hst hcur) rfl rfl hrun, ht⟩

/-- Settles O52: the run is quiet, so it has no observation and leads where its rows lead. -/
theorem anyRunOfFirstHeaderBytesSynchronizes : Obligations.AnyRunOfFirstHeaderBytesSynchronizes := by
  unfold Obligations.AnyRunOfFirstHeaderBytesSynchronizes
  intro s n hst hcur
  obtain ⟨t, hrun, ht⟩ := exists_quietRun_header n hst hcur
  exact ⟨hrun.observeFrom_eq, t.withInputs [], hrun.stateAfter_eq, ht⟩

/-! ## The whole frame -/

/-- While there is room below index 14, the bytes fed go into the buffer one after the other (41_feed.md R116). -/
theorem exists_quietRun_collect (bs : List Byte) (hst : s.state = .collect) (hlo : 2 ≤ s.cursor.toNat)
    (hroom : s.cursor.toNat + bs.length ≤ 14) :
    ∃ t, QuietRun s (feeds bs) t ∧ t.state = .collect ∧ t.cursor.toNat = s.cursor.toNat + bs.length ∧
      t.bytesHeld = s.bytesHeld ++ bs := by
  induction bs generalizing s with
  | nil => exact ⟨s, .nil s, hst, rfl, (List.append_nil _).symm⟩
  | cons b bs ih =>
    rw [List.length_cons] at hroom
    have hhi : s.cursor.toNat ≤ 13 := by omega
    obtain ⟨u, hrow, hout, hcol, hcur, hheld⟩ :=
      exists_rowStep_collect (s := (s.withInputs [feed b]).takeInput) b hst hlo hhi
    simp only [State.takeInput_cursor, State.withInputs_cursor] at hcur
    obtain ⟨t, hrun, ht, hcurt, hheldt⟩ := ih hcol (by omega) (by omega)
    refine ⟨t, .cons_feed hrow rfl hout hrun, ht, by simp; omega, ?_⟩
    rw [hheldt, hheld, List.append_assoc]
    rfl

/-- With 14 bytes held, the completed frame is those bytes and the last one. -/
theorem State.completedFrame_toList (s : State) (b : Byte) (hcur : s.cursor.toNat = 14) :
    (s.completedFrame b).toList = s.bytesHeld ++ [b] := by
  rw [frame_toList]
  simp [s.completedFrame_getElem, State.bytesHeld, hcur, List.range_succ]

/-- Bytes 2 to 13 of a frame are its payload. -/
theorem checksum_frameBytes (payload : Vector Byte 12) (k : Byte) :
    checksum (frameBytes payload k) 2 13 = payloadSum payload := by
  have hlen : payload.toList.length = 12 := payload.length_toList
  simp [checksum, payloadSum, frameBytes, List.take_of_length_le]

/-- Where the frame's bytes are known, so is the event of its completion: the checksum is the payload's sum. -/
theorem State.completionEvent_eq {payload : Vector Byte 12} {k : Byte}
    (hframe : (s.completedFrame k).toList = frameBytes payload k) : s.completionEvent k =
      if k = payloadSum payload then .frameAccepted (s.completedFrame k) (s.snapshotOf (s.completedFrame k))
      else .checksumMismatch (payloadSum payload) k (s.completedFrame k) := by
  have hsum : frameChecksum s.frame = payloadSum payload := by
    rw [← s.completedFrame_checksum k, frameChecksum, hframe]
    exact checksum_frameBytes payload k
  simp only [State.completionEvent, hsum, eq_comm]

/-- From AWAIT1 the header and a payload are collected without an event, up to the place of the last byte. -/
theorem exists_quietRun_payload (payload : Vector Byte 12) (hst : s.state = .await1) (hcur : s.cursor = 0#4) :
    ∃ u, QuietRun s (feeds ([Config.HDR0, Config.HDR1] ++ payload.toList)) u ∧ u.state = .collect ∧
      u.cursor.toNat = 14 ∧ u.bytesHeld = [Config.HDR0, Config.HDR1] ++ payload.toList := by
  obtain ⟨h, hheader, hcol, htwo, hheld⟩ := exists_quietRun_header 0 hst hcur
  have hlen : payload.toList.length = 12 := payload.length_toList
  have htwo' : h.cursor.toNat = 2 := congrArg BitVec.toNat htwo
  obtain ⟨u, hpayload, hcol', hlast, hheld'⟩ := exists_quietRun_collect payload.toList hcol (by omega) (by omega)
  rw [feeds_append]
  exact ⟨u, hheader.append hpayload, hcol', by omega, hheld' ▸ hheld ▸ rfl⟩

/-- Settles O47: the header and the payload are a quiet run of 14 steps, and the fifteenth byte completes the frame. -/
theorem fifteenFedBytesGiveExactlyOneFrameEvent : Obligations.FifteenFedBytesGiveExactlyOneFrameEvent := by
  unfold Obligations.FifteenFedBytesGiveExactlyOneFrameEvent
  intro s payload k hst hcur
  obtain ⟨u, hrun, hcol, hlast, hheld⟩ := exists_quietRun_payload payload hst hcur
  obtain ⟨i, t, hi, hrow, hout, hawait, hzero, -⟩ :=
    exists_rowStep_last (s := (u.withInputs [feed k]).takeInput) k hcol hlast
  have hstep : step (u.withInputs [feed k]) = .next t := step_feed hrow hi rfl
  have hframe : ((u.withInputs [feed k]).takeInput.completedFrame k).toList = frameBytes payload k :=
    (State.completedFrame_toList _ k hlast).trans (congrArg (· ++ [k]) hheld)
  have hsplit : feeds (frameBytes payload k) = feeds ([Config.HDR0, Config.HDR1] ++ payload.toList) ++ [feed k] :=
    feeds_append ([Config.HDR0, Config.HDR1] ++ payload.toList) [k]
  have hlen : (feeds ([Config.HDR0, Config.HDR1] ++ payload.toList)).length = 14 := by simp [feeds]
  obtain ⟨hparams, hdraws⟩ := hrun.keeps_params_draws
  refine ⟨_, t, hframe, ?_, hsplit ▸ hrun.stateAfter_concat hstep, hawait, hzero⟩
  rw [hsplit, hrun.observeFrom_concat hstep hout, hlen, State.completionEvent_eq hframe]
  simp [State.snapshotOf, hparams, hdraws]

/-! ## The extent of a frame event -/

/-- The frame an output event describes, accepted or raw. -/
def OutputEvent.frame? : OutputEvent → Option Frame
  | .frameAccepted f _ => some f
  | .checksumMismatch _ _ raw => some raw
  | .commandFrame _ => none

theorem OutputEvent.exists_frame_of_isFrameEvent {e : OutputEvent} (h : e.isFrameEvent = true) :
    ∃ f, e.frame? = some f := by
  cases e with
  | commandFrame => cases h
  | frameAccepted f _ | checksumMismatch _ _ f => exact ⟨f, rfl⟩

/-- A frame event describes the frame that the byte just fed completed (41_feed.md R117, R118). -/
theorem RowStep.eq_completedFrame {e : OutputEvent} {f : Frame} (h : RowStep s i t) (hout : t.out = some e)
    (hf : e.frame? = some f) : s.state = .collect ∧ s.cursor.toNat = 14 ∧
      ∃ b, Sys2Proof.encode i = eventWord 0b01#2 b ∧ f = s.completedFrame b := by
  cases h
  case feedColLastOk b hst hcur _ | feedColLastBad b hst hcur _ =>
    cases hout
    cases hf
    exact ⟨hst, hcur, b, rfl, rfl⟩
  case encode =>
    cases hout
    cases hf
  all_goals cases hout

/-- In a run from AWAIT1 a frame event's bytes are the last 15 fed, with the header in front (41_feed.md R121). -/
theorem frame_suffix_bytesFed {ins : List Input} {i : Input} {e : OutputEvent} {f : Frame} (hst : s.state = .await1)
    (hcur : s.cursor = 0#4) (h : stateAfter s (ins ++ [i]) = some t) (hout : t.out = some e) (hf : e.frame? = some f) :
    f.toList <:+ bytesFed (ins ++ [i]) ∧ f[0] = 0xBB#8 ∧ f[1] = 0x51#8 := by
  rw [stateAfter_append, Option.bind_eq_some_iff] at h
  obtain ⟨u, hu, hlast⟩ := h
  obtain ⟨-, hheader, hfed⟩ := tracks_of_stateAfter hst hcur hu
  obtain ⟨-, j, hev, hrow⟩ := step_eq_next_iff.mp (stateAfter_singleton_eq_some_iff.mp hlast)
  obtain ⟨hcol, hfourteen, b, hj, rfl⟩ := hrow.eq_completedFrame hout hf
  obtain ⟨h0, h1⟩ := hheader hcol
  rw [State.seenBytes_collect (s := u) hcol] at hfed
  rw [State.completedFrame_toList _ b hfourteen, bytesFed_concat_of_feed (e := i) (hev.trans hj)]
  exact ⟨List.suffix_append_self_iff.mpr hfed, (State.completedFrame_getElem _ b 0 (by decide)).trans h0,
    (State.completedFrame_getElem _ b 1 (by decide)).trans h1⟩

/-- Settles O48: both frame events describe a frame, whose 15 bytes are among those fed. -/
theorem frameEventDescribesTheLastFifteenBytesFed : Obligations.FrameEventDescribesTheLastFifteenBytesFed := by
  unfold Obligations.FrameEventDescribesTheLastFifteenBytesFed
  intro s t ins i hst hcur h
  refine ⟨fun f snap hout => frame_suffix_bytesFed hst hcur h hout rfl,
    fun c e raw hout => frame_suffix_bytesFed hst hcur h hout rfl, fun hfew e hout => ?_⟩
  by_contra hframe
  obtain ⟨f, hf⟩ := OutputEvent.exists_frame_of_isFrameEvent (Bool.eq_true_of_not_eq_false hframe)
  have hle := (frame_suffix_bytesFed hst hcur h hout hf).1.length_le
  have hlen : f.toList.length = 15 := f.length_toList
  omega

end Sys2Proof.Machine
end

section
/-! The statements of 42_checksum.md: the modular sum (R140), its order independence (R143), what inbound validation
detects and misses (R144), and the range of the command checksum (R146). Over bytes as elements of the commutative
group `BitVec 8` the checksum is the plain sum of its range, so writing one byte moves it by that byte's change. -/

namespace Sys2Proof.Machine

/-! ## The modular sum -/

/-- The bytes of a sublist of known extent, summed by index. -/
theorem sum_map_toNat_take {l : List Byte} {n : Nat} (h : n ≤ l.length) :
    ((l.take n).map BitVec.toNat).sum = ∑ i ∈ Finset.range n, (l.getD i 0#8).toNat := by
  induction n with
  | zero => rfl
  | succ n ih =>
    have hn : n < l.length := h
    rw [Finset.sum_range_succ, ← ih hn.le, List.map_take, List.map_take, List.sum_take_succ _ n (by simpa using hn)]
    simp [hn]

/-- Settles O34: the range of the model's list, dropped to `lo` and cut to its length, is `lo` to `hi` by index. -/
theorem checksumIsTheModularSum : Obligations.ChecksumIsTheModularSum := by
  unfold Obligations.ChecksumIsTheModularSum
  intro bytes lo hi hle hlt
  have hroom : hi + 1 - lo ≤ (bytes.drop lo).length := by rw [List.length_drop]; omega
  rw [checksum, BitVec.toNat_ofNat, sum_map_toNat_take hroom, ← Finset.Ico_add_one_right_eq_Icc,
    Finset.sum_Ico_eq_sum_range]
  simp

/-! ## Order independence -/

theorem checksum_eq_of_perm {a b : List Byte} {lo hi : Nat}
    (h : ((a.drop lo).take (hi + 1 - lo)).Perm ((b.drop lo).take (hi + 1 - lo))) :
    checksum a lo hi = checksum b lo hi :=
  congrArg (BitVec.ofNat 8) (h.map BitVec.toNat).sum_eq

/-- Settles O35: a permutation keeps the sum, and the sum modulo 256 is a byte. -/
theorem checksumIsOrderIndependent : Obligations.ChecksumIsOrderIndependent := by
  unfold Obligations.ChecksumIsOrderIndependent
  exact fun a b lo hi h => ⟨checksum_eq_of_perm h, Nat.le_of_lt_succ (checksum a lo hi).isLt⟩

/-! ## What inbound validation detects -/

theorem ofNat_sum_map_toNat (l : List Byte) : BitVec.ofNat 8 (l.map BitVec.toNat).sum = l.sum := by
  induction l with
  | nil => rfl
  | cons b l ih => simp [BitVec.ofNat_add, ih]

/-- Addition of bytes wraps as the checksum does (42_checksum.md R140). -/
theorem checksum_eq_sum (l : List Byte) (lo hi : Nat) : checksum l lo hi = ((l.drop lo).take (hi + 1 - lo)).sum :=
  ofNat_sum_map_toNat _

/-- A byte written inside the range moves the checksum by its change. -/
theorem checksum_set {l : List Byte} {lo hi k : Nat} (v : Byte) (hlo : lo ≤ k) (hhi : k ≤ hi) (hk : k < l.length) :
    checksum (l.set k v) lo hi = checksum l lo hi + (v - l[k]) := by
  have hin : k - lo < ((l.drop lo).take (hi + 1 - lo)).length := by simp; omega
  rw [checksum_eq_sum, checksum_eq_sum, List.drop_set, if_neg (by omega), List.take_set, List.sum_set',
    dif_pos hin]
  simp [show lo + (k - lo) = k by omega, sub_eq_neg_add]

theorem frameChecksum_set {f : Frame} {k : Nat} (v : Byte) (hk : k < 15) (hlo : 2 ≤ k) (hhi : k ≤ 13) :
    frameChecksum (f.set k v) = frameChecksum f + (v - f[k]) := by
  rw [frameChecksum, Vector.toList_set]
  exact checksum_set v hlo hhi (by simpa using hk)

/-- Inbound validation compares the sum with byte 14 (42_checksum.md R141). -/
theorem frameValid_iff (f : Frame) : frameValid f = true ↔ frameChecksum f = f[14] := beq_iff_eq

/-- A frame that agrees with another outside one position is that frame with one byte written. -/
theorem eq_set_of_agree {f g : Frame} {k : Nat} (hk : k < 15) (h : ∀ i : Nat, (hi : i < 15) → i ≠ k → f[i] = g[i]) :
    g = f.set k g[k] := by
  refine Vector.ext fun i hi => ?_
  rw [Vector.getElem_set]
  split
  case isTrue e => simp only [e]
  case isFalse e => exact (h i hi (Ne.symm e)).symm

/-- A change of one byte of 2 to 14 changes the sum or the byte it is compared with, not both
(42_checksum.md R144). -/
theorem frameValid_eq_false_of_one_change {f g : Frame} {k : Nat} (hk : k < 15) (hlo : 2 ≤ k)
    (hvalid : frameValid f = true) (hne : f[k] ≠ g[k]) (h : ∀ i : Nat, (hi : i < 15) → i ≠ k → f[i] = g[i]) :
    frameValid g = false := by
  rw [frameValid_iff] at hvalid
  rw [Bool.eq_false_iff, Ne, frameValid_iff]
  intro hg
  by_cases hlast : k = 14
  · subst hlast
    have hsum : frameChecksum f = frameChecksum g := frameChecksum_congr fun i hi _ _ => h i hi (by omega)
    exact hne (hvalid.symm.trans (hsum.trans hg))
  · have hsum : frameChecksum g = frameChecksum f + (g[k] - f[k]) := by
      conv_lhs => rw [eq_set_of_agree hk h]
      exact frameChecksum_set _ hk hlo (by omega)
    rw [hg, hvalid, h 14 (by decide) (Ne.symm hlast), left_eq_add] at hsum
    exact hne (sub_eq_zero.mp hsum).symm

/-- A reordered payload has the same sum (42_checksum.md R143). -/
theorem frameValid_of_payload_perm {f g : Frame} (hvalid : frameValid f = true) (hlast : f[14] = g[14])
    (h : ((f.toList.drop 2).take 12).Perm ((g.toList.drop 2).take 12)) : frameValid g = true := by
  rw [frameValid_iff] at hvalid ⊢
  have hsum : frameChecksum f = frameChecksum g := checksum_eq_of_perm h
  rw [← hsum, hvalid, hlast]

/-- Two changes of the payload that cancel leave the sum, and byte 14, as they were (42_checksum.md R144). -/
theorem frameValid_of_cancelling_changes {f : Frame} {j k : Nat} (d : Byte) (hj : j < 15) (hk : k < 15) (hjlo : 2 ≤ j)
    (hjhi : j ≤ 13) (hklo : 2 ≤ k) (hkhi : k ≤ 13) (hjk : j ≠ k) (hvalid : frameValid f = true) :
    frameValid ((f.set j (f[j] + d)).set k (f[k] - d)) = true := by
  rw [frameValid_iff] at hvalid ⊢
  rw [frameChecksum_set _ hk hklo hkhi, frameChecksum_set _ hj hjlo hjhi, Vector.getElem_set_ne _ _ hjk,
    Vector.getElem_set_ne _ _ (by omega), Vector.getElem_set_ne _ _ (by omega), ← hvalid]
  abel

/-- Settles O36: one change is detected; a permutation and two cancelling changes are not. -/
theorem checksumDetectsSingleByteErrorsOnly : Obligations.ChecksumDetectsSingleByteErrorsOnly := by
  unfold Obligations.ChecksumDetectsSingleByteErrorsOnly
  exact ⟨fun _ _ _ hk hlo hvalid hne h => frameValid_eq_false_of_one_change hk hlo hvalid hne h,
    fun _ _ hvalid hlast h => frameValid_of_payload_perm hvalid hlast h,
    fun _ _ _ d hj hk hjlo hjhi hklo hkhi hjk hvalid =>
      frameValid_of_cancelling_changes d hj hk hjlo hjhi hklo hkhi hjk hvalid⟩

/-! ## The command checksum -/

theorem cmdPower_le (d : DesiredState) : (cmdPower d).toNat ≤ 0x80 := by
  unfold cmdPower
  cases d.power <;> decide

theorem cmdModeFan_le (d : DesiredState) : (cmdModeFan d).toNat ≤ 0x32 := by
  unfold cmdModeFan
  cases d.mode <;> cases d.fanHigh <;> decide

/-- Settles O42: the three fields are at most 0x80, 0x32 and 0x0E, so their sum is a byte; power on, fan high and the
highest target in Humidity mode reach 0xC0. -/
theorem commandChecksumNeverWraps : Obligations.CommandChecksumNeverWraps := by
  unfold Obligations.CommandChecksumNeverWraps
  refine ⟨fun d => ?_, { power := true, fanHigh := true, mode := .humidity, target := 90#8 }, by decide⟩
  have hpower := cmdPower_le d
  have hmode := cmdModeFan_le d
  have htarget : (targetCode d.mode d.target).toNat ≤ 0x0E := targetCode_le d.mode d.target
  have hfields : (cmdPower d + cmdModeFan d).toNat = (cmdPower d).toNat + (cmdModeFan d).toNat :=
    BitVec.toNat_add_of_lt (by omega)
  have hsum : (cmdChecksum d).toNat =
      (cmdPower d).toNat + (cmdModeFan d).toNat + (targetCode d.mode d.target).toNat := by
    rw [cmdChecksum_eq_sum, BitVec.toNat_add_of_lt (by omega), hfields]
  exact ⟨hsum, rfl, rfl, rfl, rfl, show (cmdChecksum d).toNat ≤ 0xC0 by omega⟩

end Sys2Proof.Machine
end

section
/-! The statements of 43_snapshot_decode.md: the boolean and whole-byte fields (R151 to R153, R156, R157), the target
(R154), the mode (R155), the temperature and its reading (R158), and the snapshot ports of the accepting step (R159).
Every target, drawn or not, lies in 30..90, so the port's seven wires hold it exactly. -/

namespace Sys2Proof.Machine

/-! ## Fields -/

theorem bitSet_iff (b mask : Byte) : bitSet b mask = true ↔ b &&& mask ≠ 0#8 := bne_iff_ne

/-- Settles O37: each boolean is `bitSet` of its byte, and the humidity is its byte. -/
theorem snapshotFieldsAreTheMaskedBytes : Obligations.SnapshotFieldsAreTheMaskedBytes := by
  unfold Obligations.SnapshotFieldsAreTheMaskedBytes
  exact fun _ _ _ => ⟨bitSet_iff _ _, bitSet_iff _ _, rfl, bitSet_iff _ _, bitSet_iff _ _⟩

theorem decodeSnapshot_mode_of_code {pol : TgtHighPolicy} {d : Config.TargetDraw} {f : Frame} {c : Byte}
    (h : f[3] &&& 0x03#8 = c) : (decodeSnapshot pol d f).mode = modeOfCode (c.setWidth 2) :=
  congrArg (fun b : Byte => modeOfCode (b.setWidth 2)) h

/-- Settles O38: the mode is that of the masked byte's two low bits. -/
theorem snapshotModeIsTheCodeOfByteThree : Obligations.SnapshotModeIsTheCodeOfByteThree := by
  unfold Obligations.SnapshotModeIsTheCodeOfByteThree
  intro pol d f
  exact ⟨decodeSnapshot_mode_of_code, decodeSnapshot_mode_of_code, decodeSnapshot_mode_of_code,
    decodeSnapshot_mode_of_code⟩

/-- Settles O40: the byte is passed on, and the signed reading is its two's complement value. -/
theorem temperatureIsByteTenReadAsTheConsumerReadsIt :
    Obligations.TemperatureIsByteTenReadAsTheConsumerReadsIt := by
  unfold Obligations.TemperatureIsByteTenReadAsTheConsumerReadsIt
  intro pol d f p
  have htemp : (decodeSnapshot pol d f).temperature = f[10] := rfl
  refine ⟨htemp, fun hp => ?_, fun hp => ?_⟩
  · simp [temperatureReading, hp, htemp]
  · rw [temperatureReading, if_pos hp, htemp, BitVec.toInt_eq_toNat_cond]
    split <;> split <;> omega

/-! ## The target -/

section Target

variable (pol : TgtHighPolicy) (d : Config.TargetDraw) {r : Byte}

theorem drawsTarget_iff : drawsTarget pol r = true ↔ pol = .draw ∧ 15 ≤ r.toNat := by
  simp [drawsTarget, targetCodeHigh, Nat.lt_iff_add_one_le]

theorem decodeTargetPercent_low (h : r.toNat < 2) : decodeTargetPercent pol d r = 50 := if_pos h

theorem decodeTargetPercent_of_two_le (h : 2 ≤ r.toNat) : decodeTargetPercent pol d r =
    if drawsTarget pol r then 30 + d.val else min (30 + 5 * (r.toNat - 2)) 90 :=
  if_neg (Nat.not_lt.mpr h)

/-- The inverse of the encoder's formula, which reaches the bound of 90 at code 14. -/
theorem decodeTargetPercent_table (hlo : 2 ≤ r.toNat) (hhi : r.toNat ≤ 14) :
    decodeTargetPercent pol d r = 30 + 5 * (r.toNat - 2) := by
  have hdraw : ¬ drawsTarget pol r = true := fun h => absurd ((drawsTarget_iff pol).mp h).2 (by omega)
  rw [decodeTargetPercent_of_two_le pol d hlo, if_neg hdraw]
  omega

theorem decodeTargetPercent_clamp (h : 15 ≤ r.toNat) : decodeTargetPercent .clamp d r = 90 := by
  have hdraw : ¬ drawsTarget .clamp r = true := by simp [drawsTarget_iff]
  rw [decodeTargetPercent_of_two_le .clamp d (by omega), if_neg hdraw]
  omega

theorem decodeTargetPercent_draw (h : 15 ≤ r.toNat) : decodeTargetPercent .draw d r = 30 + d.val := by
  rw [decodeTargetPercent_of_two_le .draw d (by omega), if_pos ((drawsTarget_iff .draw).mpr ⟨rfl, h⟩)]

theorem decodeTargetPercent_bounds (r : Byte) :
    30 ≤ decodeTargetPercent pol d r ∧ decodeTargetPercent pol d r ≤ 90 := by
  rcases Nat.lt_or_ge r.toNat 2 with hlow | hlo
  · simp [decodeTargetPercent_low pol d hlow]
  · have hd : d.val < 61 := d.isLt
    rw [decodeTargetPercent_of_two_le pol d hlo]
    split <;> omega

/-- The port's seven wires hold the percentage without wrapping (10_state.md R36). -/
theorem toNat_decodeTarget (r : Byte) : (decodeTarget pol d r).toNat = decodeTargetPercent pol d r :=
  (BitVec.toNat_ofNat _ _).trans (Nat.mod_eq_of_lt ((decodeTargetPercent_bounds pol d r).2.trans_lt (by decide)))

theorem toNat_decodeSnapshot_target (f : Frame) :
    (decodeSnapshot pol d f).target.toNat = decodeTargetPercent pol d f[5] :=
  toNat_decodeTarget pol d f[5]

end Target

/-- Settles O39: the percentage range by range, and the draw that gives `v` is `v - 30`. -/
theorem snapshotTargetIsTheTableOfByteFive : Obligations.SnapshotTargetIsTheTableOfByteFive := by
  unfold Obligations.SnapshotTargetIsTheTableOfByteFive
  intro pol d f
  simp only [toNat_decodeSnapshot_target]
  refine ⟨decodeTargetPercent_low pol d, decodeTargetPercent_table pol d, ?_, ?_⟩
  · rintro hhigh rfl
    exact decodeTargetPercent_clamp d hhigh
  · rintro hhigh rfl
    obtain ⟨hmin, hmax⟩ := decodeTargetPercent_bounds .draw d f[5]
    refine ⟨hmin, hmax, fun v hlo hhi => ⟨⟨v - 30, by omega⟩, ?_⟩⟩
    rw [decodeTargetPercent_draw _ hhigh]
    exact Nat.add_sub_cancel' hlo

/-! ## Publication -/

/-- An accepted frame's event carries the snapshot decoded from that very frame (41_feed.md R117). -/
theorem RowStep.snapshot_eq {s t : State} {i : Instr} {f : Frame} {snap : Snapshot} (h : RowStep s i t)
    (hout : t.out = some (.frameAccepted f snap)) : snap = s.snapshotOf f := by
  obtain ⟨b, rfl⟩ := h.out_frameAccepted_iff.mp ⟨f, snap, hout⟩
  cases h
  cases hout
  rfl

/-- Settles O32: the ports are the event's fields, and its snapshot is a decoded one, whose target is in range. -/
theorem acceptedFramePublishesItsSnapshot : Obligations.AcceptedFramePublishesItsSnapshot := by
  unfold Obligations.AcceptedFramePublishesItsSnapshot
  intro s t f snap h hout
  obtain ⟨-, i, -, hrow⟩ := step_eq_next_iff.mp h
  obtain ⟨hmin, hmax⟩ : 30 ≤ snap.target.toNat ∧ snap.target.toNat ≤ 90 := by
    rw [hrow.snapshot_eq hout, State.snapshotOf, toNat_decodeSnapshot_target]
    exact decodeTargetPercent_bounds _ _ _
  rw [State.ports, hout]
  exact ⟨rfl, rfl, rfl, rfl, rfl, rfl, rfl, rfl, rfl, rfl, rfl, hmin, hmax, fun m hm => by simp [portsOf, hm],
    fun hm => by simp [portsOf, hm]⟩

end Sys2Proof.Machine
end

section
/-! The statements of 44_command_encode.md: the legal operands (R171), the target code (R174), the defaults of unwired
inputs (R177), the encoder's independence of the decoder (R178), and the round trip through both (R179). -/

namespace Sys2Proof.Machine

/-! ## Operands -/

/-- Settles O29: the port with one of the three codes is the one an operand of that mode drives. -/
theorem everyPortValueButModeElevenIsLegal : Obligations.EveryPortValueButModeElevenIsLegal := by
  unfold Obligations.EveryPortValueButModeElevenIsLegal
  intro s power fan code target hr henc hds
  refine ⟨?auto, ?cold, ?humidity, ?eleven⟩
  case eleven =>
    rintro rfl
    exact exec_encode_of_modeEleven hr henc (congrArg DesiredPort.mode hds)
  all_goals
    rintro rfl
    exact exec_encode_of_operand hr henc hds

/-- Settles O45: an absent field leaves the port's default, and the all-default port holds the operand whose frame the
rule states. -/
theorem unwiredInputsDriveTheDefaults : Obligations.UnwiredInputsDriveTheDefaults := by
  unfold Obligations.UnwiredInputsDriveTheDefaults
  refine ⟨fun _ _ _ _ => ⟨rfl, rfl, rfl, rfl⟩, fun s hr henc hds => ?_⟩
  have hframe : commandFrame ⟨false, false, .auto, 50#8⟩ =
      #v[0xBB#8, 0x51#8, 0x00#8, 0x10#8, 0x00#8, 0x00#8, 0x00#8, 0x00#8, 0x00#8, 0x10#8] := by decide
  exact hframe ▸ exec_encode_of_operand hr henc hds

/-! ## The target code -/

/-- In Humidity mode the code fits its byte, so the formula is not wrapped (44_command_encode.md R174). -/
theorem toNat_targetCode_humidity (t : Byte) :
    (targetCode .humidity t).toNat = (min (max t.toNat 30) 90 - 30) / 5 + 2 := by
  have hfits : (min (max t.toNat 30) 90 - 30) / 5 + 2 < 2 ^ 8 := by omega
  exact (BitVec.toNat_ofNat _ _).trans (Nat.mod_eq_of_lt hfits)

theorem targetCode_humidity_bounds (t : Byte) :
    2 ≤ (targetCode .humidity t).toNat ∧ (targetCode .humidity t).toNat ≤ 14 := by
  rw [toNat_targetCode_humidity]
  omega

/-- Settles O44: the formula in Humidity mode, below, inside and above the clamp's range; a constant in the others. -/
theorem encodedTargetRoundsDownAfterClamping : Obligations.EncodedTargetRoundsDownAfterClamping := by
  unfold Obligations.EncodedTargetRoundsDownAfterClamping
  refine ⟨fun t => ?_, fun _ => rfl, fun _ => rfl⟩
  obtain ⟨hmin, hmax⟩ := targetCode_humidity_bounds t
  have hcode := toNat_targetCode_humidity t
  exact ⟨hmin, hmax, fun hlow => by omega, fun hlo hhi => by omega, fun hhigh => by omega⟩

/-! ## Encoding, then decoding -/

section Encoded

variable (d : DesiredState)

theorem bitSet_cmdPower : bitSet (cmdPower d) 0x80#8 = d.power := by
  unfold cmdPower
  cases d.power <;> rfl

theorem bitSet_cmdModeFan : bitSet (cmdModeFan d) 0x20#8 = d.fanHigh := by
  unfold cmdModeFan
  cases d.mode <;> cases d.fanHigh <;> rfl

theorem modeOfCode_cmdModeFan : modeOfCode ((cmdModeFan d &&& 0x03#8).setWidth 2) = some d.mode := by
  unfold cmdModeFan
  cases d.mode <;> cases d.fanHigh <;> rfl

end Encoded

/-- The decoder inverts the encoder's formula up to its clamp and its rounding. -/
theorem decodeTargetPercent_targetCode (pol : TgtHighPolicy) (d : Config.TargetDraw) (t : Byte) :
    decodeTargetPercent pol d (targetCode .humidity t) = 30 + 5 * ((min (max t.toNat 30) 90 - 30) / 5) := by
  obtain ⟨hmin, hmax⟩ := targetCode_humidity_bounds t
  rw [decodeTargetPercent_table pol d hmin hmax, toNat_targetCode_humidity, Nat.add_sub_cancel]

/-- Under the `clamp` policy every decoded target is one of the encoder's steps. -/
theorem five_dvd_decodeTargetPercent_clamp (d : Config.TargetDraw) (r : Byte) :
    5 ∣ decodeTargetPercent .clamp d r := by
  rcases Nat.lt_or_ge r.toNat 2 with hlow | hlo
  · simp [decodeTargetPercent_low .clamp d hlow]
  rcases Nat.lt_or_ge r.toNat 15 with hhi | hhigh
  · rw [decodeTargetPercent_table .clamp d hlo (by omega)]
    omega
  · simp [decodeTargetPercent_clamp d hhigh]

section Decoded

variable {d₁ d₂ : Config.TargetDraw} {r t : Byte} {m : Mode} {d : DesiredState} {b : Byte}

/-- A target on the encoder's steps comes back as it was (44_command_encode.md R179). -/
theorem decodeTargetPercent_targetCode_of_decoded (ht : t.toNat = decodeTargetPercent .clamp d₁ r) :
    decodeTargetPercent .clamp d₂ (targetCode .humidity t) = t.toNat := by
  obtain ⟨hmin, hmax⟩ := decodeTargetPercent_bounds .clamp d₁ r
  have hstep := five_dvd_decodeTargetPercent_clamp d₁ r
  rw [decodeTargetPercent_targetCode]
  omega

/-! ## Decoding, then encoding -/

/-- The power byte comes back when it has no bit but its power bit. -/
theorem eq_cmdPower_iff (hpower : d.power = bitSet b 0x80#8) : b = cmdPower d ↔ b = 0x00#8 ∨ b = 0x80#8 := by
  constructor
  · rintro rfl
    unfold cmdPower
    cases d.power <;> decide
  · rintro (rfl | rfl) <;> simp [cmdPower, hpower, bitSet]

/-- The mode byte comes back when it is one of the encoder's six values (44_command_encode.md R173). -/
theorem eq_cmdModeFan_iff (hfan : d.fanHigh = bitSet b 0x20#8)
    (hmode : modeOfCode ((b &&& 0x03#8).setWidth 2) = some d.mode) : b = cmdModeFan d ↔
      b = 0x10#8 ∨ b = 0x11#8 ∨ b = 0x12#8 ∨ b = 0x30#8 ∨ b = 0x31#8 ∨ b = 0x32#8 := by
  constructor
  · rintro rfl
    unfold cmdModeFan
    cases d.mode <;> cases d.fanHigh <;> decide
  · rintro (rfl | rfl | rfl | rfl | rfl | rfl) <;>
      simp [cmdModeFan, hfan, ← Option.some.inj hmode, modeBase, modeCode, bitSet]

/-- In Humidity mode the target code comes back when it is in the table's range: a code outside it decodes to the target
of a code inside it. -/
theorem eq_targetCode_humidity_iff (ht : t.toNat = decodeTargetPercent .clamp d₁ r) :
    r = targetCode .humidity t ↔ 2 ≤ r.toNat ∧ r.toNat ≤ 14 := by
  constructor
  · rintro rfl
    exact targetCode_humidity_bounds t
  · rintro ⟨hlo, hhi⟩
    rw [decodeTargetPercent_table .clamp d₁ hlo hhi] at ht
    rw [BitVec.toNat_eq, toNat_targetCode_humidity]
    omega

theorem eq_targetCode_iff (ht : t.toNat = decodeTargetPercent .clamp d₁ r) : r = targetCode m t ↔
    (m = .auto → r = 0#8) ∧ (m = .cold → r = 1#8) ∧ (m = .humidity → 2 ≤ r.toNat ∧ r.toNat ≤ 14) := by
  cases m
  case humidity => simpa using eq_targetCode_humidity_iff ht
  all_goals simp [targetCode]

end Decoded

/-- Settles O46: byte by byte, the fields of an encoded frame decode to the operand, and the bytes of a decoded frame
are encoded again where they have nothing but the fields. -/
theorem roundTripOverTheControllableFields : Obligations.RoundTripOverTheControllableFields := by
  unfold Obligations.RoundTripOverTheControllableFields
  intro d₁ d₂ f g m t _ hmode ht cmd
  have htarget : t.toNat = decodeTargetPercent .clamp d₁ f[5] := ht.trans (toNat_decodeSnapshot_target .clamp d₁ f)
  constructor
  · intro h2 h3 h5
    refine ⟨(congrArg (bitSet · 0x80#8) h2).trans (bitSet_cmdPower _),
      (congrArg (bitSet · 0x20#8) h3).trans (bitSet_cmdModeFan _),
      (decodeSnapshot_mode_of_code (congrArg (· &&& 0x03#8) h3)).trans (modeOfCode_cmdModeFan _), ?_⟩
    rintro rfl
    have hback : decodeTargetPercent .clamp d₂ g[5] = t.toNat :=
      h5 ▸ decodeTargetPercent_targetCode_of_decoded htarget
    rw [BitVec.toNat_eq, toNat_decodeSnapshot_target, hback, ht]
  · exact and_congr (eq_cmdPower_iff rfl) (and_congr (eq_cmdModeFan_iff rfl hmode)
      (and_congr Iff.rfl (eq_targetCode_iff htarget)))

/-! ## Independence of the decoder -/

section Independence

variable {s t : State} {e : Input} {rest : List Input}

theorem RowStep.filter_out_isFrameEvent {i : Instr} (h : RowStep s i t) :
    t.out.toList.filter OutputEvent.isFrameEvent = if i = .encode then [] else t.out.toList := by
  cases h <;> rfl

/-- Of the steps that are taken, exactly ENCODE's has an output event that is not the frame decoder's. -/
theorem filter_out_isFrameEvent_of_stateAfter (h : stateAfter s [e] = some t) :
    t.out.toList.filter OutputEvent.isFrameEvent = if e.isEncode then [] else t.out.toList := by
  obtain ⟨-, i, hev, hrow⟩ := step_eq_next_iff.mp (step_of_stateAfter_singleton h)
  have hencode : e.isEncode = true ↔ i = .encode := by
    rw [Input.isEncode, beq_iff_eq, show e.ev = Sys2Proof.encode i from hev]
    exact encode_eq_encodeWord_iff
  simp only [hrow.filter_out_isFrameEvent, hencode]

/-- An ENCODE that is taken leaves everything that later outputs depend on (44_command_encode.md R178). -/
theorem outputsFrom_of_stateAfter_encode (he : e.isEncode = true) (h : stateAfter s [e] = some t) :
    outputsFrom t rest = outputsFrom s rest := by
  obtain ⟨-, i, hev, hrow⟩ := step_eq_next_iff.mp (step_of_stateAfter_singleton h)
  obtain rfl : i = .encode := encode_eq_encodeWord_iff.mp (hev.symm.trans (beq_iff_eq.mp he))
  cases hrow
  exact congrArg (Option.map _) (unwrittenBufferBytesAreNeverObserved _ _ rest rfl rfl rfl rfl fun _ _ => rfl)

end Independence

/-- Settles O50, by induction on the events: an ENCODE in front is left out together with its command frame, and any
other event in front takes the same step on both sides, with a frame event or none. -/
theorem encodeEventsDoNotChangeTheFrameEvents : Obligations.EncodeEventsDoNotChangeTheFrameEvents := by
  unfold Obligations.EncodeEventsDoNotChangeTheFrameEvents
  intro s ins es h
  induction ins generalizing s es with
  | nil =>
    cases h
    rfl
  | cons e rest ih =>
    rw [outputsFrom_cons, Option.bind_eq_some_iff] at h
    obtain ⟨t, hafter, h⟩ := h
    obtain ⟨es', hrest, rfl⟩ := Option.map_eq_some_iff.mp h
    have hrest' := ih t es' hrest
    rw [List.filter_append, filter_out_isFrameEvent_of_stateAfter hafter]
    cases he : e.isEncode with
    | true =>
      rw [List.filter_cons_of_neg (by simp [he]), ← outputsFrom_of_stateAfter_encode he hafter, hrest']
      rfl
    | false =>
      rw [List.filter_cons_of_pos (by simp [he]), outputsFrom_cons, hafter, Option.bind_some, hrest']
      rfl

end Sys2Proof.Machine
end

section
/-! The statements of 60_exceptions.md: the table of refusals (R204) and its order (R202), the successor of every legal
event (R214), and the runs that contain a refusal (70_reset_and_hazards.md R223). A step takes a row of the opcode
table, by `RowStep`, or refuses by a row of the table of refusals, by `RefusalRow`, and never both. -/

namespace Sys2Proof.Machine

variable {s t : State} {i : Instr} {r : Refusal}

/-! ## Legal events -/

/-- The three codes other than 11 are modes (30_encoding.md R70), so the port holds an operand. -/
theorem exists_desiredOfPort_eq_some {p : DesiredPort} (hmode : p.mode ≠ 0b11#2) : ∃ d, desiredOfPort p = some d := by
  have hcode : ∃ m, modeOfCode p.mode = some m := by
    rcases evKind_cases p.mode with h | h | h | h
    · exact ⟨.auto, h ▸ rfl⟩
    · exact ⟨.cold, h ▸ rfl⟩
    · exact ⟨.humidity, h ▸ rfl⟩
    · exact absurd h hmode
  obtain ⟨m, hm⟩ := hcode
  exact ⟨⟨p.power, p.fanHigh, m, p.target⟩, by simp [desiredOfPort, hm]⟩

/-- Where its condition holds a row has a step, ENCODE with the encoder present and a mode on the port. -/
theorem exists_rowStep (ha : rowApplies s.decodeCtx i = true)
    (hencode : i = .encode → s.params.hasEncoder = true ∧ s.ds.mode ≠ 0b11#2) : ∃ t, RowStep s i t := by
  cases i
  case encode =>
    obtain ⟨henc, hmode⟩ := hencode rfl
    obtain ⟨d, hd⟩ := exists_desiredOfPort_eq_some hmode
    exact ⟨_, .encode henc hd⟩
  all_goals exact ⟨_, by constructor <;> simp_all⟩

/-- Settles O11: the decoded row's condition holds, so it has a step, and every row leads to a representable pair. -/
theorem everyLegalEventHasASuccessor : Obligations.EveryLegalEventHasASuccessor := by
  unfold Obligations.EveryLegalEventHasASuccessor
  intro s i hr hdecode hencode
  obtain ⟨-, ha, hev⟩ := decode_eq_ok_iff.mp hdecode
  obtain ⟨t, hrow⟩ := exists_rowStep (s := s.takeInput) ha hencode
  exact ⟨t, step_eq_next_iff.mpr ⟨hr, i, hev, hrow⟩, hrow.representable hr⟩

/-! ## The table of refusals -/

/-- The rows of the table of refusals (60_exceptions.md R204). Each row holds only where no row above it does, as R202
orders them. -/
inductive RefusalRow (s : State) : Refusal → Prop
  | unreachableState (hr : ¬ s.Representable) : RefusalRow s .unreachableState
  | reservedEventBits (hr : s.Representable) (hk : evKind s.presented.ev ≠ 0b01#2)
    (hd : evData s.presented.ev ≠ 0#8) : RefusalRow s .reservedEventBits
  | noEncoder (hr : s.Representable) (hev : s.presented.ev = 0x300#10) (henc : s.params.hasEncoder = false) :
    RefusalRow s .noEncoder
  | invalidMode (hr : s.Representable) (hev : s.presented.ev = 0x300#10) (henc : s.params.hasEncoder = true)
    (hmode : s.presented.ds.mode = 0b11#2) : RefusalRow s .invalidMode

/-- On ENCODE's word, from a representable pair, the step is ENCODE's meaning. -/
theorem step_of_encodeWord (hr : s.Representable) (hev : s.presented.ev = 0x300#10) :
    step s = exec .encode s.takeInput :=
  step_of_decode ((decode_eq_encode_iff (c := s.decodeCtx) hr).mpr hev)

theorem RefusalRow.step_eq (h : RefusalRow s r) : step s = .refused r := by
  cases h with
  | unreachableState hr => exact step_of_not_representable hr
  | reservedEventBits hr hk hd => exact step_of_reservedBits hr rfl hk hd
  | noEncoder hr hev henc =>
    rw [step_of_encodeWord hr hev]
    exact exec_encode_of_noEncoder hr henc
  | invalidMode hr hev henc hmode =>
    rw [step_of_encodeWord hr hev]
    exact exec_encode_of_modeEleven hr henc hmode

/-- The table of refusals misses nothing: where none of its rows holds, the event is legal and has a successor
(60_exceptions.md R204, R214). -/
theorem exists_step_eq_next (hnone : ∀ r, ¬ RefusalRow s r) : ∃ t, step s = .next t := by
  have hr : s.Representable := by_contra fun hr => hnone _ (.unreachableState hr)
  have hlegal : evKind s.presented.ev = 0b01#2 ∨ evData s.presented.ev = 0#8 := by
    by_contra hnot
    obtain ⟨hk, hd⟩ := not_or.mp hnot
    exact hnone _ (.reservedEventBits hr hk hd)
  obtain ⟨i, hdecode⟩ := (exists_decode_eq_ok_iff (c := s.decodeCtx) hr).mpr hlegal
  have hencode : i = .encode → s.params.hasEncoder = true ∧ s.presented.ds.mode ≠ 0b11#2 := by
    rintro rfl
    have hev : s.presented.ev = 0x300#10 := (decode_eq_encode_iff (c := s.decodeCtx) hr).mp hdecode
    have henc : s.params.hasEncoder = true :=
      by_contra fun henc => hnone _ (.noEncoder hr hev (Bool.eq_false_iff.mpr henc))
    exact ⟨henc, fun hmode => hnone _ (.invalidMode hr hev henc hmode)⟩
  obtain ⟨t, hstep, -⟩ := everyLegalEventHasASuccessor s i hr hdecode hencode
  exact ⟨t, hstep⟩

/-- The refusals of a step, whole: the counterpart of `step_eq_next_iff`. -/
theorem step_eq_refused_iff : step s = .refused r ↔ RefusalRow s r := by
  refine ⟨fun hstep => ?_, RefusalRow.step_eq⟩
  by_contra hnot
  have hnone : ∀ r', ¬ RefusalRow s r' := by
    intro r' h
    obtain rfl : r = r' := Host.Outcome.refused.inj (hstep.symm.trans h.step_eq)
    exact hnot h
  obtain ⟨t, hnext⟩ := exists_step_eq_next hnone
  cases hstep.symm.trans hnext

/-- Settles O9: a step refuses by the rows of `RefusalRow` and no others, and each refusal is one row's. -/
theorem stepRefusesExactlyAsTheTableSays : Obligations.StepRefusesExactlyAsTheTableSays := by
  unfold Obligations.StepRefusesExactlyAsTheTableSays
  intro s
  simp only [step_eq_refused_iff]
  refine ⟨⟨fun | .unreachableState hr => hr, .unreachableState⟩,
    ⟨fun | .reservedEventBits hr hk hd => ⟨hr, hk, hd⟩, fun ⟨hr, hk, hd⟩ => .reservedEventBits hr hk hd⟩,
    ⟨fun | .noEncoder hr hev henc => ⟨hr, hev, henc⟩, fun ⟨hr, hev, henc⟩ => .noEncoder hr hev henc⟩,
    ⟨fun | .invalidMode hr hev henc hmode => ⟨hr, hev, henc, hmode⟩,
      fun ⟨hr, hev, henc, hmode⟩ => .invalidMode hr hev henc hmode⟩, fun r h => ?_⟩
  cases h <;> simp

/-! ## Runs that contain a refusal -/

/-- A refused event leads to no state (60_exceptions.md R204). -/
theorem stateAfter_singleton_of_refused {e : Input} (h : step (s.withInputs [e]) = .refused r) :
    stateAfter s [e] = none := by
  simp only [stateAfter_cons, h]

/-- A run has no observation exactly when it leads to no state (70_reset_and_hazards.md R223). -/
theorem observeFrom_eq_none_iff (s : State) (ins : List Input) : observeFrom s ins = none ↔ stateAfter s ins = none := by
  have houtputs : outputsFrom s ins = none ↔ stateAfter s ins = none := by
    induction ins generalizing s with
    | nil => simp [outputsFrom, observeFrom, observeSteps]
    | cons e rest ih =>
      have hsplit : stateAfter s (e :: rest) = (stateAfter s [e]).bind fun t => stateAfter t rest :=
        stateAfter_append s [e] rest
      rw [outputsFrom_cons, hsplit]
      cases hafter : stateAfter s [e] with
      | none => simp
      | some t => simp [ih t]
  rwa [outputsFrom, Option.map_eq_none_iff] at houtputs

/-- Settles O33: the events up to the refused one lead to no state, nor do they with others behind them. -/
theorem refusedRunHasNoObservation : Obligations.RefusedRunHasNoObservation := by
  unfold Obligations.RefusedRunHasNoObservation
  intro p before after e s r hbefore hrefused
  refine (observeFrom_eq_none_iff _ _).mpr ?_
  calc stateAfter (State.resetWith p) (before ++ ([e] ++ after))
      = (stateAfter s [e]).bind fun u => stateAfter u after := by
        rw [stateAfter_append, hbefore, Option.bind_some, stateAfter_append]
    _ = none := by rw [stateAfter_singleton_of_refused hrefused, Option.bind_none]

end Sys2Proof.Machine
end

section
/-! The statements of 70_reset_and_hazards.md: power-on and RESET give one reset state (R220, R221), and any header pair
starts a frame (R225). -/

namespace Sys2Proof.Machine

variable {s : State}

/-! ## The reset state -/

/-- Settles O27: RESET's row writes the fields that R220 lists to the values that `State.resetWith` gives them. -/
theorem resetEventAndPowerOnReachTheSameState : Obligations.ResetEventAndPowerOnReachTheSameState := by
  unfold Obligations.ResetEventAndPowerOnReachTheSameState
  exact fun p s hr => ⟨rfl, rfl, rfl, _, RowStep.reset.exec_eq hr, rfl, rfl, rfl, rfl⟩

/-! ## False synchronization -/

/-- Two bytes held are the buffer's first two. -/
theorem State.readBuf_of_bytesHeld_pair {b c : Byte} (hcur : s.cursor = 2#4) (hheld : s.bytesHeld = [b, c]) :
    s.readBuf 0 = b ∧ s.readBuf 1 = c := by
  simpa [State.bytesHeld, hcur, List.range_succ] using hheld

/-- From AWAIT1 the pair is the shortest run of `exists_quietRun_header`; from AWAIT2, where 0xBB re-arms, it is one of
`exists_quietRun_rearm`. -/
theorem exists_quietRun_headerPair (hr : s.Representable) (hst : s.state = .await1 ∨ s.state = .await2) :
    ∃ t, QuietRun s (feeds [0xBB#8, 0x51#8]) t ∧ t.state = .collect ∧ t.cursor = 2#4 ∧
      t.bytesHeld = [0xBB#8, 0x51#8] := by
  have hcur (hne : s.state ≠ .collect) : s.cursor = 0#4 := cursor_eq_zero_of_representable (c := s.decodeCtx) hr hne
  rcases hst with hst | hst
  · exact exists_quietRun_header 0 hst (hcur (by simp [hst]))
  · exact exists_quietRun_rearm 1 hst (hcur (by simp [hst]))

/-- Settles O53: the pair is a quiet run to COLLECT that holds the header. -/
theorem anyHeaderPairStartsAFrame : Obligations.AnyHeaderPairStartsAFrame := by
  unfold Obligations.AnyHeaderPairStartsAFrame
  intro s hr hst
  obtain ⟨t, hrun, hcol, htwo, hheld⟩ := exists_quietRun_headerPair hr hst
  exact ⟨t.withInputs [], hrun.stateAfter_eq, hcol, htwo, t.readBuf_of_bytesHeld_pair htwo hheld⟩

end Sys2Proof.Machine
end
